-- ==== Sys2Proof/Word.lean ====
section
/-! DEFINITION. The two widths of spec/00_scope.md R12: u8 and u16. -/

namespace Sys2Proof

/-- `u8` (R12). -/
abbrev Byte := BitVec 8

/-- `u16` (R12). -/
abbrev Word := BitVec 16

/-- A shade or colour index 0 to 3 (R439, R456). -/
abbrev Shade := BitVec 2

end Sys2Proof
end

