-- ==== Sys2Proof/Machine/Bits.lean ====
section
/-! DEFINITION. Bit fields, extensions and byte order (spec/00_scope.md R12, R13, R15). -/

namespace Sys2Proof

/-- `w[15:8]` (R12). -/
def hiByte (w : Word) : Byte := w.extractLsb' 8 8

/-- `w[7:0]` (R12). -/
def loByte (w : Word) : Byte := w.extractLsb' 0 8

/-- `hi ++ lo` with `hi` on the high side (R12). -/
def joinBytes (hi lo : Byte) : Word := hi ++ lo

/-- `zext_16(v)` (R13). -/
def zext16 (v : Byte) : Word := v.zeroExtend 16

/-- `sext_16(v)`: `v` if `v < 0x80`, else `v + 0xFF00` (R13). -/
def sext16 (v : Byte) : Word := if v.toNat < 0x80 then zext16 v else zext16 v + 0xFF00

/-- The address `0xFF00 + zext_16(v)` of page 0xFF (R129). -/
def pageFF (v : Byte) : Word := 0xFF00 + zext16 v

end Sys2Proof
end

