-- ==== Sys2Proof/Syntax.lean ====
section
/-! DEFINITION. The instructions: one constructor per row of spec/opcode_table.json
(spec/30_encoding.md R132, R133): the rows with an operand byte first, then the others, each in the table's
order (Lean compiles no constructor with an argument past the 244th). An immediate operand is the value R129
assembles from its bytes. -/

namespace Sys2Proof

/-- The instruction set (R132, R133). In a name, `At` stands for parentheses and `Inc`, `Dec` for `+`, `-`. -/
inductive Instr where
  /-- `LD BC,d16`, 0x01 (R220). -/
  | ldBcD16 (n : Word)
  /-- `LD B,d8`, 0x06 (R204). -/
  | ldBD8 (n : Byte)
  /-- `LD (a16),SP`, 0x08 (R221). -/
  | ldAtA16Sp (a : Word)
  /-- `LD C,d8`, 0x0E (R204). -/
  | ldCD8 (n : Byte)
  /-- `LD DE,d16`, 0x11 (R220). -/
  | ldDeD16 (n : Word)
  /-- `LD D,d8`, 0x16 (R204). -/
  | ldDD8 (n : Byte)
  /-- `JR e8`, 0x18 (R314). -/
  | jrE8 (n : Byte)
  /-- `LD E,d8`, 0x1E (R204). -/
  | ldED8 (n : Byte)
  /-- `JR NZ,e8`, 0x20 (R315). -/
  | jrNzE8 (n : Byte)
  /-- `LD HL,d16`, 0x21 (R220). -/
  | ldHlD16 (n : Word)
  /-- `LD H,d8`, 0x26 (R204). -/
  | ldHD8 (n : Byte)
  /-- `JR Z,e8`, 0x28 (R315). -/
  | jrZE8 (n : Byte)
  /-- `LD L,d8`, 0x2E (R204). -/
  | ldLD8 (n : Byte)
  /-- `JR NC,e8`, 0x30 (R315). -/
  | jrNcE8 (n : Byte)
  /-- `LD SP,d16`, 0x31 (R220). -/
  | ldSpD16 (n : Word)
  /-- `LD (HL),d8`, 0x36 (R205). -/
  | ldAtHlD8 (n : Byte)
  /-- `JR C,e8`, 0x38 (R315). -/
  | jrCE8 (n : Byte)
  /-- `LD A,d8`, 0x3E (R204). -/
  | ldAD8 (n : Byte)
  /-- `JP NZ,a16`, 0xC2 (R312). -/
  | jpNzA16 (a : Word)
  /-- `JP a16`, 0xC3 (R311). -/
  | jpA16 (a : Word)
  /-- `CALL NZ,a16`, 0xC4 (R317). -/
  | callNzA16 (a : Word)
  /-- `ADD A,d8`, 0xC6 (R241). -/
  | addAD8 (n : Byte)
  /-- `JP Z,a16`, 0xCA (R312). -/
  | jpZA16 (a : Word)
  /-- `PREFIX CB`, 0xCB (R336). -/
  | prefixCb (n : Byte)
  /-- `CALL Z,a16`, 0xCC (R317). -/
  | callZA16 (a : Word)
  /-- `CALL a16`, 0xCD (R316). -/
  | callA16 (a : Word)
  /-- `ADC A,d8`, 0xCE (R242). -/
  | adcAD8 (n : Byte)
  /-- `JP NC,a16`, 0xD2 (R312). -/
  | jpNcA16 (a : Word)
  /-- `CALL NC,a16`, 0xD4 (R317). -/
  | callNcA16 (a : Word)
  /-- `SUB d8`, 0xD6 (R243). -/
  | subD8 (n : Byte)
  /-- `JP C,a16`, 0xDA (R312). -/
  | jpCA16 (a : Word)
  /-- `CALL C,a16`, 0xDC (R317). -/
  | callCA16 (a : Word)
  /-- `SBC A,d8`, 0xDE (R244). -/
  | sbcAD8 (n : Byte)
  /-- `LDH (a8),A`, 0xE0 (R217). -/
  | ldhAtA8A (n : Byte)
  /-- `AND d8`, 0xE6 (R245). -/
  | andD8 (n : Byte)
  /-- `ADD SP,e8`, 0xE8 (R274). -/
  | addSpE8 (n : Byte)
  /-- `LD (a16),A`, 0xEA (R215). -/
  | ldAtA16A (a : Word)
  /-- `XOR d8`, 0xEE (R246). -/
  | xorD8 (n : Byte)
  /-- `LDH A,(a8)`, 0xF0 (R216). -/
  | ldhAAtA8 (n : Byte)
  /-- `OR d8`, 0xF6 (R247). -/
  | orD8 (n : Byte)
  /-- `LD HL,SP+e8`, 0xF8 (R226). -/
  | ldHlSpE8 (n : Byte)
  /-- `LD A,(a16)`, 0xFA (R214). -/
  | ldAAtA16 (a : Word)
  /-- `CP d8`, 0xFE (R248). -/
  | cpD8 (n : Byte)
  /-- `NOP`, 0x00 (R331). -/
  | nop
  /-- `LD (BC),A`, 0x02 (R208). -/
  | ldAtBcA
  /-- `INC BC`, 0x03 (R272). -/
  | incBc
  /-- `INC B`, 0x04 (R249). -/
  | incB
  /-- `DEC B`, 0x05 (R251). -/
  | decB
  /-- `RLCA`, 0x07 (R281). -/
  | rlca
  /-- `ADD HL,BC`, 0x09 (R271). -/
  | addHlBc
  /-- `LD A,(BC)`, 0x0A (R206). -/
  | ldAAtBc
  /-- `DEC BC`, 0x0B (R273). -/
  | decBc
  /-- `INC C`, 0x0C (R249). -/
  | incC
  /-- `DEC C`, 0x0D (R251). -/
  | decC
  /-- `RRCA`, 0x0F (R282). -/
  | rrca
  /-- `STOP`, 0x10 (R333). -/
  | stop
  /-- `LD (DE),A`, 0x12 (R209). -/
  | ldAtDeA
  /-- `INC DE`, 0x13 (R272). -/
  | incDe
  /-- `INC D`, 0x14 (R249). -/
  | incD
  /-- `DEC D`, 0x15 (R251). -/
  | decD
  /-- `RLA`, 0x17 (R283). -/
  | rla
  /-- `ADD HL,DE`, 0x19 (R271). -/
  | addHlDe
  /-- `LD A,(DE)`, 0x1A (R207). -/
  | ldAAtDe
  /-- `DEC DE`, 0x1B (R273). -/
  | decDe
  /-- `INC E`, 0x1C (R249). -/
  | incE
  /-- `DEC E`, 0x1D (R251). -/
  | decE
  /-- `RRA`, 0x1F (R284). -/
  | rra
  /-- `LD (HL+),A`, 0x22 (R212). -/
  | ldAtHlIncA
  /-- `INC HL`, 0x23 (R272). -/
  | incHl
  /-- `INC H`, 0x24 (R249). -/
  | incH
  /-- `DEC H`, 0x25 (R251). -/
  | decH
  /-- `DAA`, 0x27 (R253). -/
  | daa
  /-- `ADD HL,HL`, 0x29 (R271). -/
  | addHlHl
  /-- `LD A,(HL+)`, 0x2A (R210). -/
  | ldAAtHlInc
  /-- `DEC HL`, 0x2B (R273). -/
  | decHl
  /-- `INC L`, 0x2C (R249). -/
  | incL
  /-- `DEC L`, 0x2D (R251). -/
  | decL
  /-- `CPL`, 0x2F (R254). -/
  | cpl
  /-- `LD (HL-),A`, 0x32 (R213). -/
  | ldAtHlDecA
  /-- `INC SP`, 0x33 (R272). -/
  | incSp
  /-- `INC (HL)`, 0x34 (R250). -/
  | incAtHl
  /-- `DEC (HL)`, 0x35 (R252). -/
  | decAtHl
  /-- `SCF`, 0x37 (R255). -/
  | scf
  /-- `ADD HL,SP`, 0x39 (R271). -/
  | addHlSp
  /-- `LD A,(HL-)`, 0x3A (R211). -/
  | ldAAtHlDec
  /-- `DEC SP`, 0x3B (R273). -/
  | decSp
  /-- `INC A`, 0x3C (R249). -/
  | incA
  /-- `DEC A`, 0x3D (R251). -/
  | decA
  /-- `CCF`, 0x3F (R256). -/
  | ccf
  /-- `LD B,B`, 0x40 (R201). -/
  | ldBB
  /-- `LD B,C`, 0x41 (R201). -/
  | ldBC
  /-- `LD B,D`, 0x42 (R201). -/
  | ldBD
  /-- `LD B,E`, 0x43 (R201). -/
  | ldBE
  /-- `LD B,H`, 0x44 (R201). -/
  | ldBH
  /-- `LD B,L`, 0x45 (R201). -/
  | ldBL
  /-- `LD B,(HL)`, 0x46 (R202). -/
  | ldBAtHl
  /-- `LD B,A`, 0x47 (R201). -/
  | ldBA
  /-- `LD C,B`, 0x48 (R201). -/
  | ldCB
  /-- `LD C,C`, 0x49 (R201). -/
  | ldCC
  /-- `LD C,D`, 0x4A (R201). -/
  | ldCD
  /-- `LD C,E`, 0x4B (R201). -/
  | ldCE
  /-- `LD C,H`, 0x4C (R201). -/
  | ldCH
  /-- `LD C,L`, 0x4D (R201). -/
  | ldCL
  /-- `LD C,(HL)`, 0x4E (R202). -/
  | ldCAtHl
  /-- `LD C,A`, 0x4F (R201). -/
  | ldCA
  /-- `LD D,B`, 0x50 (R201). -/
  | ldDB
  /-- `LD D,C`, 0x51 (R201). -/
  | ldDC
  /-- `LD D,D`, 0x52 (R201). -/
  | ldDD
  /-- `LD D,E`, 0x53 (R201). -/
  | ldDE
  /-- `LD D,H`, 0x54 (R201). -/
  | ldDH
  /-- `LD D,L`, 0x55 (R201). -/
  | ldDL
  /-- `LD D,(HL)`, 0x56 (R202). -/
  | ldDAtHl
  /-- `LD D,A`, 0x57 (R201). -/
  | ldDA
  /-- `LD E,B`, 0x58 (R201). -/
  | ldEB
  /-- `LD E,C`, 0x59 (R201). -/
  | ldEC
  /-- `LD E,D`, 0x5A (R201). -/
  | ldED
  /-- `LD E,E`, 0x5B (R201). -/
  | ldEE
  /-- `LD E,H`, 0x5C (R201). -/
  | ldEH
  /-- `LD E,L`, 0x5D (R201). -/
  | ldEL
  /-- `LD E,(HL)`, 0x5E (R202). -/
  | ldEAtHl
  /-- `LD E,A`, 0x5F (R201). -/
  | ldEA
  /-- `LD H,B`, 0x60 (R201). -/
  | ldHB
  /-- `LD H,C`, 0x61 (R201). -/
  | ldHC
  /-- `LD H,D`, 0x62 (R201). -/
  | ldHD
  /-- `LD H,E`, 0x63 (R201). -/
  | ldHE
  /-- `LD H,H`, 0x64 (R201). -/
  | ldHH
  /-- `LD H,L`, 0x65 (R201). -/
  | ldHL
  /-- `LD H,(HL)`, 0x66 (R202). -/
  | ldHAtHl
  /-- `LD H,A`, 0x67 (R201). -/
  | ldHA
  /-- `LD L,B`, 0x68 (R201). -/
  | ldLB
  /-- `LD L,C`, 0x69 (R201). -/
  | ldLC
  /-- `LD L,D`, 0x6A (R201). -/
  | ldLD
  /-- `LD L,E`, 0x6B (R201). -/
  | ldLE
  /-- `LD L,H`, 0x6C (R201). -/
  | ldLH
  /-- `LD L,L`, 0x6D (R201). -/
  | ldLL
  /-- `LD L,(HL)`, 0x6E (R202). -/
  | ldLAtHl
  /-- `LD L,A`, 0x6F (R201). -/
  | ldLA
  /-- `LD (HL),B`, 0x70 (R203). -/
  | ldAtHlB
  /-- `LD (HL),C`, 0x71 (R203). -/
  | ldAtHlC
  /-- `LD (HL),D`, 0x72 (R203). -/
  | ldAtHlD
  /-- `LD (HL),E`, 0x73 (R203). -/
  | ldAtHlE
  /-- `LD (HL),H`, 0x74 (R203). -/
  | ldAtHlH
  /-- `LD (HL),L`, 0x75 (R203). -/
  | ldAtHlL
  /-- `HALT`, 0x76 (R332). -/
  | halt
  /-- `LD (HL),A`, 0x77 (R203). -/
  | ldAtHlA
  /-- `LD A,B`, 0x78 (R201). -/
  | ldAB
  /-- `LD A,C`, 0x79 (R201). -/
  | ldAC
  /-- `LD A,D`, 0x7A (R201). -/
  | ldAD
  /-- `LD A,E`, 0x7B (R201). -/
  | ldAE
  /-- `LD A,H`, 0x7C (R201). -/
  | ldAH
  /-- `LD A,L`, 0x7D (R201). -/
  | ldAL
  /-- `LD A,(HL)`, 0x7E (R202). -/
  | ldAAtHl
  /-- `LD A,A`, 0x7F (R201). -/
  | ldAA
  /-- `ADD A,B`, 0x80 (R241). -/
  | addAB
  /-- `ADD A,C`, 0x81 (R241). -/
  | addAC
  /-- `ADD A,D`, 0x82 (R241). -/
  | addAD
  /-- `ADD A,E`, 0x83 (R241). -/
  | addAE
  /-- `ADD A,H`, 0x84 (R241). -/
  | addAH
  /-- `ADD A,L`, 0x85 (R241). -/
  | addAL
  /-- `ADD A,(HL)`, 0x86 (R241). -/
  | addAAtHl
  /-- `ADD A,A`, 0x87 (R241). -/
  | addAA
  /-- `ADC A,B`, 0x88 (R242). -/
  | adcAB
  /-- `ADC A,C`, 0x89 (R242). -/
  | adcAC
  /-- `ADC A,D`, 0x8A (R242). -/
  | adcAD
  /-- `ADC A,E`, 0x8B (R242). -/
  | adcAE
  /-- `ADC A,H`, 0x8C (R242). -/
  | adcAH
  /-- `ADC A,L`, 0x8D (R242). -/
  | adcAL
  /-- `ADC A,(HL)`, 0x8E (R242). -/
  | adcAAtHl
  /-- `ADC A,A`, 0x8F (R242). -/
  | adcAA
  /-- `SUB B`, 0x90 (R243). -/
  | subB
  /-- `SUB C`, 0x91 (R243). -/
  | subC
  /-- `SUB D`, 0x92 (R243). -/
  | subD
  /-- `SUB E`, 0x93 (R243). -/
  | subE
  /-- `SUB H`, 0x94 (R243). -/
  | subH
  /-- `SUB L`, 0x95 (R243). -/
  | subL
  /-- `SUB (HL)`, 0x96 (R243). -/
  | subAtHl
  /-- `SUB A`, 0x97 (R243). -/
  | subA
  /-- `SBC A,B`, 0x98 (R244). -/
  | sbcAB
  /-- `SBC A,C`, 0x99 (R244). -/
  | sbcAC
  /-- `SBC A,D`, 0x9A (R244). -/
  | sbcAD
  /-- `SBC A,E`, 0x9B (R244). -/
  | sbcAE
  /-- `SBC A,H`, 0x9C (R244). -/
  | sbcAH
  /-- `SBC A,L`, 0x9D (R244). -/
  | sbcAL
  /-- `SBC A,(HL)`, 0x9E (R244). -/
  | sbcAAtHl
  /-- `SBC A,A`, 0x9F (R244). -/
  | sbcAA
  /-- `AND B`, 0xA0 (R245). -/
  | andB
  /-- `AND C`, 0xA1 (R245). -/
  | andC
  /-- `AND D`, 0xA2 (R245). -/
  | andD
  /-- `AND E`, 0xA3 (R245). -/
  | andE
  /-- `AND H`, 0xA4 (R245). -/
  | andH
  /-- `AND L`, 0xA5 (R245). -/
  | andL
  /-- `AND (HL)`, 0xA6 (R245). -/
  | andAtHl
  /-- `AND A`, 0xA7 (R245). -/
  | andA
  /-- `XOR B`, 0xA8 (R246). -/
  | xorB
  /-- `XOR C`, 0xA9 (R246). -/
  | xorC
  /-- `XOR D`, 0xAA (R246). -/
  | xorD
  /-- `XOR E`, 0xAB (R246). -/
  | xorE
  /-- `XOR H`, 0xAC (R246). -/
  | xorH
  /-- `XOR L`, 0xAD (R246). -/
  | xorL
  /-- `XOR (HL)`, 0xAE (R246). -/
  | xorAtHl
  /-- `XOR A`, 0xAF (R246). -/
  | xorA
  /-- `OR B`, 0xB0 (R247). -/
  | orB
  /-- `OR C`, 0xB1 (R247). -/
  | orC
  /-- `OR D`, 0xB2 (R247). -/
  | orD
  /-- `OR E`, 0xB3 (R247). -/
  | orE
  /-- `OR H`, 0xB4 (R247). -/
  | orH
  /-- `OR L`, 0xB5 (R247). -/
  | orL
  /-- `OR (HL)`, 0xB6 (R247). -/
  | orAtHl
  /-- `OR A`, 0xB7 (R247). -/
  | orA
  /-- `CP B`, 0xB8 (R248). -/
  | cpB
  /-- `CP C`, 0xB9 (R248). -/
  | cpC
  /-- `CP D`, 0xBA (R248). -/
  | cpD
  /-- `CP E`, 0xBB (R248). -/
  | cpE
  /-- `CP H`, 0xBC (R248). -/
  | cpH
  /-- `CP L`, 0xBD (R248). -/
  | cpL
  /-- `CP (HL)`, 0xBE (R248). -/
  | cpAtHl
  /-- `CP A`, 0xBF (R248). -/
  | cpA
  /-- `RET NZ`, 0xC0 (R319). -/
  | retNz
  /-- `POP BC`, 0xC1 (R234). -/
  | popBc
  /-- `PUSH BC`, 0xC5 (R233). -/
  | pushBc
  /-- `RST 00h`, 0xC7 (R320). -/
  | rst00
  /-- `RET Z`, 0xC8 (R319). -/
  | retZ
  /-- `RET`, 0xC9 (R318). -/
  | ret
  /-- `RST 08h`, 0xCF (R320). -/
  | rst08
  /-- `RET NC`, 0xD0 (R319). -/
  | retNc
  /-- `POP DE`, 0xD1 (R234). -/
  | popDe
  /-- `ILLEGAL_D3`, 0xD3 (R337). -/
  | illegalD3
  /-- `PUSH DE`, 0xD5 (R233). -/
  | pushDe
  /-- `RST 10h`, 0xD7 (R320). -/
  | rst10
  /-- `RET C`, 0xD8 (R319). -/
  | retC
  /-- `RETI`, 0xD9 (R321). -/
  | reti
  /-- `ILLEGAL_DB`, 0xDB (R337). -/
  | illegalDB
  /-- `ILLEGAL_DD`, 0xDD (R337). -/
  | illegalDD
  /-- `RST 18h`, 0xDF (R320). -/
  | rst18
  /-- `POP HL`, 0xE1 (R234). -/
  | popHl
  /-- `LD (C),A`, 0xE2 (R219). -/
  | ldAtCA
  /-- `ILLEGAL_E3`, 0xE3 (R337). -/
  | illegalE3
  /-- `ILLEGAL_E4`, 0xE4 (R337). -/
  | illegalE4
  /-- `PUSH HL`, 0xE5 (R233). -/
  | pushHl
  /-- `RST 20h`, 0xE7 (R320). -/
  | rst20
  /-- `JP HL`, 0xE9 (R313). -/
  | jpHl
  /-- `ILLEGAL_EB`, 0xEB (R337). -/
  | illegalEB
  /-- `ILLEGAL_EC`, 0xEC (R337). -/
  | illegalEC
  /-- `ILLEGAL_ED`, 0xED (R337). -/
  | illegalED
  /-- `RST 28h`, 0xEF (R320). -/
  | rst28
  /-- `POP AF`, 0xF1 (R232). -/
  | popAf
  /-- `LD A,(C)`, 0xF2 (R218). -/
  | ldAAtC
  /-- `DI`, 0xF3 (R334). -/
  | di
  /-- `ILLEGAL_F4`, 0xF4 (R337). -/
  | illegalF4
  /-- `PUSH AF`, 0xF5 (R233). -/
  | pushAf
  /-- `RST 30h`, 0xF7 (R320). -/
  | rst30
  /-- `LD SP,HL`, 0xF9 (R222). -/
  | ldSpHl
  /-- `EI`, 0xFB (R335). -/
  | ei
  /-- `ILLEGAL_FC`, 0xFC (R337). -/
  | illegalFC
  /-- `ILLEGAL_FD`, 0xFD (R337). -/
  | illegalFD
  /-- `RST 38h`, 0xFF (R320). -/
  | rst38
  /-- `RLC B`, 0xCB 0x00 (R286). -/
  | rlcB
  /-- `RLC C`, 0xCB 0x01 (R286). -/
  | rlcC
  /-- `RLC D`, 0xCB 0x02 (R286). -/
  | rlcD
  /-- `RLC E`, 0xCB 0x03 (R286). -/
  | rlcE
  /-- `RLC H`, 0xCB 0x04 (R286). -/
  | rlcH
  /-- `RLC L`, 0xCB 0x05 (R286). -/
  | rlcL
  /-- `RLC (HL)`, 0xCB 0x06 (R286). -/
  | rlcAtHl
  /-- `RLC A`, 0xCB 0x07 (R286). -/
  | rlcA
  /-- `RRC B`, 0xCB 0x08 (R287). -/
  | rrcB
  /-- `RRC C`, 0xCB 0x09 (R287). -/
  | rrcC
  /-- `RRC D`, 0xCB 0x0A (R287). -/
  | rrcD
  /-- `RRC E`, 0xCB 0x0B (R287). -/
  | rrcE
  /-- `RRC H`, 0xCB 0x0C (R287). -/
  | rrcH
  /-- `RRC L`, 0xCB 0x0D (R287). -/
  | rrcL
  /-- `RRC (HL)`, 0xCB 0x0E (R287). -/
  | rrcAtHl
  /-- `RRC A`, 0xCB 0x0F (R287). -/
  | rrcA
  /-- `RL B`, 0xCB 0x10 (R288). -/
  | rlB
  /-- `RL C`, 0xCB 0x11 (R288). -/
  | rlC
  /-- `RL D`, 0xCB 0x12 (R288). -/
  | rlD
  /-- `RL E`, 0xCB 0x13 (R288). -/
  | rlE
  /-- `RL H`, 0xCB 0x14 (R288). -/
  | rlH
  /-- `RL L`, 0xCB 0x15 (R288). -/
  | rlL
  /-- `RL (HL)`, 0xCB 0x16 (R288). -/
  | rlAtHl
  /-- `RL A`, 0xCB 0x17 (R288). -/
  | rlA
  /-- `RR B`, 0xCB 0x18 (R289). -/
  | rrB
  /-- `RR C`, 0xCB 0x19 (R289). -/
  | rrC
  /-- `RR D`, 0xCB 0x1A (R289). -/
  | rrD
  /-- `RR E`, 0xCB 0x1B (R289). -/
  | rrE
  /-- `RR H`, 0xCB 0x1C (R289). -/
  | rrH
  /-- `RR L`, 0xCB 0x1D (R289). -/
  | rrL
  /-- `RR (HL)`, 0xCB 0x1E (R289). -/
  | rrAtHl
  /-- `RR A`, 0xCB 0x1F (R289). -/
  | rrA
  /-- `SLA B`, 0xCB 0x20 (R290). -/
  | slaB
  /-- `SLA C`, 0xCB 0x21 (R290). -/
  | slaC
  /-- `SLA D`, 0xCB 0x22 (R290). -/
  | slaD
  /-- `SLA E`, 0xCB 0x23 (R290). -/
  | slaE
  /-- `SLA H`, 0xCB 0x24 (R290). -/
  | slaH
  /-- `SLA L`, 0xCB 0x25 (R290). -/
  | slaL
  /-- `SLA (HL)`, 0xCB 0x26 (R290). -/
  | slaAtHl
  /-- `SLA A`, 0xCB 0x27 (R290). -/
  | slaA
  /-- `SRA B`, 0xCB 0x28 (R291). -/
  | sraB
  /-- `SRA C`, 0xCB 0x29 (R291). -/
  | sraC
  /-- `SRA D`, 0xCB 0x2A (R291). -/
  | sraD
  /-- `SRA E`, 0xCB 0x2B (R291). -/
  | sraE
  /-- `SRA H`, 0xCB 0x2C (R291). -/
  | sraH
  /-- `SRA L`, 0xCB 0x2D (R291). -/
  | sraL
  /-- `SRA (HL)`, 0xCB 0x2E (R291). -/
  | sraAtHl
  /-- `SRA A`, 0xCB 0x2F (R291). -/
  | sraA
  /-- `SWAP B`, 0xCB 0x30 (R292). -/
  | swapB
  /-- `SWAP C`, 0xCB 0x31 (R292). -/
  | swapC
  /-- `SWAP D`, 0xCB 0x32 (R292). -/
  | swapD
  /-- `SWAP E`, 0xCB 0x33 (R292). -/
  | swapE
  /-- `SWAP H`, 0xCB 0x34 (R292). -/
  | swapH
  /-- `SWAP L`, 0xCB 0x35 (R292). -/
  | swapL
  /-- `SWAP (HL)`, 0xCB 0x36 (R292). -/
  | swapAtHl
  /-- `SWAP A`, 0xCB 0x37 (R292). -/
  | swapA
  /-- `SRL B`, 0xCB 0x38 (R293). -/
  | srlB
  /-- `SRL C`, 0xCB 0x39 (R293). -/
  | srlC
  /-- `SRL D`, 0xCB 0x3A (R293). -/
  | srlD
  /-- `SRL E`, 0xCB 0x3B (R293). -/
  | srlE
  /-- `SRL H`, 0xCB 0x3C (R293). -/
  | srlH
  /-- `SRL L`, 0xCB 0x3D (R293). -/
  | srlL
  /-- `SRL (HL)`, 0xCB 0x3E (R293). -/
  | srlAtHl
  /-- `SRL A`, 0xCB 0x3F (R293). -/
  | srlA
  /-- `BIT 0,B`, 0xCB 0x40 (R295). -/
  | bit0B
  /-- `BIT 0,C`, 0xCB 0x41 (R295). -/
  | bit0C
  /-- `BIT 0,D`, 0xCB 0x42 (R295). -/
  | bit0D
  /-- `BIT 0,E`, 0xCB 0x43 (R295). -/
  | bit0E
  /-- `BIT 0,H`, 0xCB 0x44 (R295). -/
  | bit0H
  /-- `BIT 0,L`, 0xCB 0x45 (R295). -/
  | bit0L
  /-- `BIT 0,(HL)`, 0xCB 0x46 (R295). -/
  | bit0AtHl
  /-- `BIT 0,A`, 0xCB 0x47 (R295). -/
  | bit0A
  /-- `BIT 1,B`, 0xCB 0x48 (R295). -/
  | bit1B
  /-- `BIT 1,C`, 0xCB 0x49 (R295). -/
  | bit1C
  /-- `BIT 1,D`, 0xCB 0x4A (R295). -/
  | bit1D
  /-- `BIT 1,E`, 0xCB 0x4B (R295). -/
  | bit1E
  /-- `BIT 1,H`, 0xCB 0x4C (R295). -/
  | bit1H
  /-- `BIT 1,L`, 0xCB 0x4D (R295). -/
  | bit1L
  /-- `BIT 1,(HL)`, 0xCB 0x4E (R295). -/
  | bit1AtHl
  /-- `BIT 1,A`, 0xCB 0x4F (R295). -/
  | bit1A
  /-- `BIT 2,B`, 0xCB 0x50 (R295). -/
  | bit2B
  /-- `BIT 2,C`, 0xCB 0x51 (R295). -/
  | bit2C
  /-- `BIT 2,D`, 0xCB 0x52 (R295). -/
  | bit2D
  /-- `BIT 2,E`, 0xCB 0x53 (R295). -/
  | bit2E
  /-- `BIT 2,H`, 0xCB 0x54 (R295). -/
  | bit2H
  /-- `BIT 2,L`, 0xCB 0x55 (R295). -/
  | bit2L
  /-- `BIT 2,(HL)`, 0xCB 0x56 (R295). -/
  | bit2AtHl
  /-- `BIT 2,A`, 0xCB 0x57 (R295). -/
  | bit2A
  /-- `BIT 3,B`, 0xCB 0x58 (R295). -/
  | bit3B
  /-- `BIT 3,C`, 0xCB 0x59 (R295). -/
  | bit3C
  /-- `BIT 3,D`, 0xCB 0x5A (R295). -/
  | bit3D
  /-- `BIT 3,E`, 0xCB 0x5B (R295). -/
  | bit3E
  /-- `BIT 3,H`, 0xCB 0x5C (R295). -/
  | bit3H
  /-- `BIT 3,L`, 0xCB 0x5D (R295). -/
  | bit3L
  /-- `BIT 3,(HL)`, 0xCB 0x5E (R295). -/
  | bit3AtHl
  /-- `BIT 3,A`, 0xCB 0x5F (R295). -/
  | bit3A
  /-- `BIT 4,B`, 0xCB 0x60 (R295). -/
  | bit4B
  /-- `BIT 4,C`, 0xCB 0x61 (R295). -/
  | bit4C
  /-- `BIT 4,D`, 0xCB 0x62 (R295). -/
  | bit4D
  /-- `BIT 4,E`, 0xCB 0x63 (R295). -/
  | bit4E
  /-- `BIT 4,H`, 0xCB 0x64 (R295). -/
  | bit4H
  /-- `BIT 4,L`, 0xCB 0x65 (R295). -/
  | bit4L
  /-- `BIT 4,(HL)`, 0xCB 0x66 (R295). -/
  | bit4AtHl
  /-- `BIT 4,A`, 0xCB 0x67 (R295). -/
  | bit4A
  /-- `BIT 5,B`, 0xCB 0x68 (R295). -/
  | bit5B
  /-- `BIT 5,C`, 0xCB 0x69 (R295). -/
  | bit5C
  /-- `BIT 5,D`, 0xCB 0x6A (R295). -/
  | bit5D
  /-- `BIT 5,E`, 0xCB 0x6B (R295). -/
  | bit5E
  /-- `BIT 5,H`, 0xCB 0x6C (R295). -/
  | bit5H
  /-- `BIT 5,L`, 0xCB 0x6D (R295). -/
  | bit5L
  /-- `BIT 5,(HL)`, 0xCB 0x6E (R295). -/
  | bit5AtHl
  /-- `BIT 5,A`, 0xCB 0x6F (R295). -/
  | bit5A
  /-- `BIT 6,B`, 0xCB 0x70 (R295). -/
  | bit6B
  /-- `BIT 6,C`, 0xCB 0x71 (R295). -/
  | bit6C
  /-- `BIT 6,D`, 0xCB 0x72 (R295). -/
  | bit6D
  /-- `BIT 6,E`, 0xCB 0x73 (R295). -/
  | bit6E
  /-- `BIT 6,H`, 0xCB 0x74 (R295). -/
  | bit6H
  /-- `BIT 6,L`, 0xCB 0x75 (R295). -/
  | bit6L
  /-- `BIT 6,(HL)`, 0xCB 0x76 (R295). -/
  | bit6AtHl
  /-- `BIT 6,A`, 0xCB 0x77 (R295). -/
  | bit6A
  /-- `BIT 7,B`, 0xCB 0x78 (R295). -/
  | bit7B
  /-- `BIT 7,C`, 0xCB 0x79 (R295). -/
  | bit7C
  /-- `BIT 7,D`, 0xCB 0x7A (R295). -/
  | bit7D
  /-- `BIT 7,E`, 0xCB 0x7B (R295). -/
  | bit7E
  /-- `BIT 7,H`, 0xCB 0x7C (R295). -/
  | bit7H
  /-- `BIT 7,L`, 0xCB 0x7D (R295). -/
  | bit7L
  /-- `BIT 7,(HL)`, 0xCB 0x7E (R295). -/
  | bit7AtHl
  /-- `BIT 7,A`, 0xCB 0x7F (R295). -/
  | bit7A
  /-- `RES 0,B`, 0xCB 0x80 (R296). -/
  | res0B
  /-- `RES 0,C`, 0xCB 0x81 (R296). -/
  | res0C
  /-- `RES 0,D`, 0xCB 0x82 (R296). -/
  | res0D
  /-- `RES 0,E`, 0xCB 0x83 (R296). -/
  | res0E
  /-- `RES 0,H`, 0xCB 0x84 (R296). -/
  | res0H
  /-- `RES 0,L`, 0xCB 0x85 (R296). -/
  | res0L
  /-- `RES 0,(HL)`, 0xCB 0x86 (R296). -/
  | res0AtHl
  /-- `RES 0,A`, 0xCB 0x87 (R296). -/
  | res0A
  /-- `RES 1,B`, 0xCB 0x88 (R296). -/
  | res1B
  /-- `RES 1,C`, 0xCB 0x89 (R296). -/
  | res1C
  /-- `RES 1,D`, 0xCB 0x8A (R296). -/
  | res1D
  /-- `RES 1,E`, 0xCB 0x8B (R296). -/
  | res1E
  /-- `RES 1,H`, 0xCB 0x8C (R296). -/
  | res1H
  /-- `RES 1,L`, 0xCB 0x8D (R296). -/
  | res1L
  /-- `RES 1,(HL)`, 0xCB 0x8E (R296). -/
  | res1AtHl
  /-- `RES 1,A`, 0xCB 0x8F (R296). -/
  | res1A
  /-- `RES 2,B`, 0xCB 0x90 (R296). -/
  | res2B
  /-- `RES 2,C`, 0xCB 0x91 (R296). -/
  | res2C
  /-- `RES 2,D`, 0xCB 0x92 (R296). -/
  | res2D
  /-- `RES 2,E`, 0xCB 0x93 (R296). -/
  | res2E
  /-- `RES 2,H`, 0xCB 0x94 (R296). -/
  | res2H
  /-- `RES 2,L`, 0xCB 0x95 (R296). -/
  | res2L
  /-- `RES 2,(HL)`, 0xCB 0x96 (R296). -/
  | res2AtHl
  /-- `RES 2,A`, 0xCB 0x97 (R296). -/
  | res2A
  /-- `RES 3,B`, 0xCB 0x98 (R296). -/
  | res3B
  /-- `RES 3,C`, 0xCB 0x99 (R296). -/
  | res3C
  /-- `RES 3,D`, 0xCB 0x9A (R296). -/
  | res3D
  /-- `RES 3,E`, 0xCB 0x9B (R296). -/
  | res3E
  /-- `RES 3,H`, 0xCB 0x9C (R296). -/
  | res3H
  /-- `RES 3,L`, 0xCB 0x9D (R296). -/
  | res3L
  /-- `RES 3,(HL)`, 0xCB 0x9E (R296). -/
  | res3AtHl
  /-- `RES 3,A`, 0xCB 0x9F (R296). -/
  | res3A
  /-- `RES 4,B`, 0xCB 0xA0 (R296). -/
  | res4B
  /-- `RES 4,C`, 0xCB 0xA1 (R296). -/
  | res4C
  /-- `RES 4,D`, 0xCB 0xA2 (R296). -/
  | res4D
  /-- `RES 4,E`, 0xCB 0xA3 (R296). -/
  | res4E
  /-- `RES 4,H`, 0xCB 0xA4 (R296). -/
  | res4H
  /-- `RES 4,L`, 0xCB 0xA5 (R296). -/
  | res4L
  /-- `RES 4,(HL)`, 0xCB 0xA6 (R296). -/
  | res4AtHl
  /-- `RES 4,A`, 0xCB 0xA7 (R296). -/
  | res4A
  /-- `RES 5,B`, 0xCB 0xA8 (R296). -/
  | res5B
  /-- `RES 5,C`, 0xCB 0xA9 (R296). -/
  | res5C
  /-- `RES 5,D`, 0xCB 0xAA (R296). -/
  | res5D
  /-- `RES 5,E`, 0xCB 0xAB (R296). -/
  | res5E
  /-- `RES 5,H`, 0xCB 0xAC (R296). -/
  | res5H
  /-- `RES 5,L`, 0xCB 0xAD (R296). -/
  | res5L
  /-- `RES 5,(HL)`, 0xCB 0xAE (R296). -/
  | res5AtHl
  /-- `RES 5,A`, 0xCB 0xAF (R296). -/
  | res5A
  /-- `RES 6,B`, 0xCB 0xB0 (R296). -/
  | res6B
  /-- `RES 6,C`, 0xCB 0xB1 (R296). -/
  | res6C
  /-- `RES 6,D`, 0xCB 0xB2 (R296). -/
  | res6D
  /-- `RES 6,E`, 0xCB 0xB3 (R296). -/
  | res6E
  /-- `RES 6,H`, 0xCB 0xB4 (R296). -/
  | res6H
  /-- `RES 6,L`, 0xCB 0xB5 (R296). -/
  | res6L
  /-- `RES 6,(HL)`, 0xCB 0xB6 (R296). -/
  | res6AtHl
  /-- `RES 6,A`, 0xCB 0xB7 (R296). -/
  | res6A
  /-- `RES 7,B`, 0xCB 0xB8 (R296). -/
  | res7B
  /-- `RES 7,C`, 0xCB 0xB9 (R296). -/
  | res7C
  /-- `RES 7,D`, 0xCB 0xBA (R296). -/
  | res7D
  /-- `RES 7,E`, 0xCB 0xBB (R296). -/
  | res7E
  /-- `RES 7,H`, 0xCB 0xBC (R296). -/
  | res7H
  /-- `RES 7,L`, 0xCB 0xBD (R296). -/
  | res7L
  /-- `RES 7,(HL)`, 0xCB 0xBE (R296). -/
  | res7AtHl
  /-- `RES 7,A`, 0xCB 0xBF (R296). -/
  | res7A
  /-- `SET 0,B`, 0xCB 0xC0 (R297). -/
  | set0B
  /-- `SET 0,C`, 0xCB 0xC1 (R297). -/
  | set0C
  /-- `SET 0,D`, 0xCB 0xC2 (R297). -/
  | set0D
  /-- `SET 0,E`, 0xCB 0xC3 (R297). -/
  | set0E
  /-- `SET 0,H`, 0xCB 0xC4 (R297). -/
  | set0H
  /-- `SET 0,L`, 0xCB 0xC5 (R297). -/
  | set0L
  /-- `SET 0,(HL)`, 0xCB 0xC6 (R297). -/
  | set0AtHl
  /-- `SET 0,A`, 0xCB 0xC7 (R297). -/
  | set0A
  /-- `SET 1,B`, 0xCB 0xC8 (R297). -/
  | set1B
  /-- `SET 1,C`, 0xCB 0xC9 (R297). -/
  | set1C
  /-- `SET 1,D`, 0xCB 0xCA (R297). -/
  | set1D
  /-- `SET 1,E`, 0xCB 0xCB (R297). -/
  | set1E
  /-- `SET 1,H`, 0xCB 0xCC (R297). -/
  | set1H
  /-- `SET 1,L`, 0xCB 0xCD (R297). -/
  | set1L
  /-- `SET 1,(HL)`, 0xCB 0xCE (R297). -/
  | set1AtHl
  /-- `SET 1,A`, 0xCB 0xCF (R297). -/
  | set1A
  /-- `SET 2,B`, 0xCB 0xD0 (R297). -/
  | set2B
  /-- `SET 2,C`, 0xCB 0xD1 (R297). -/
  | set2C
  /-- `SET 2,D`, 0xCB 0xD2 (R297). -/
  | set2D
  /-- `SET 2,E`, 0xCB 0xD3 (R297). -/
  | set2E
  /-- `SET 2,H`, 0xCB 0xD4 (R297). -/
  | set2H
  /-- `SET 2,L`, 0xCB 0xD5 (R297). -/
  | set2L
  /-- `SET 2,(HL)`, 0xCB 0xD6 (R297). -/
  | set2AtHl
  /-- `SET 2,A`, 0xCB 0xD7 (R297). -/
  | set2A
  /-- `SET 3,B`, 0xCB 0xD8 (R297). -/
  | set3B
  /-- `SET 3,C`, 0xCB 0xD9 (R297). -/
  | set3C
  /-- `SET 3,D`, 0xCB 0xDA (R297). -/
  | set3D
  /-- `SET 3,E`, 0xCB 0xDB (R297). -/
  | set3E
  /-- `SET 3,H`, 0xCB 0xDC (R297). -/
  | set3H
  /-- `SET 3,L`, 0xCB 0xDD (R297). -/
  | set3L
  /-- `SET 3,(HL)`, 0xCB 0xDE (R297). -/
  | set3AtHl
  /-- `SET 3,A`, 0xCB 0xDF (R297). -/
  | set3A
  /-- `SET 4,B`, 0xCB 0xE0 (R297). -/
  | set4B
  /-- `SET 4,C`, 0xCB 0xE1 (R297). -/
  | set4C
  /-- `SET 4,D`, 0xCB 0xE2 (R297). -/
  | set4D
  /-- `SET 4,E`, 0xCB 0xE3 (R297). -/
  | set4E
  /-- `SET 4,H`, 0xCB 0xE4 (R297). -/
  | set4H
  /-- `SET 4,L`, 0xCB 0xE5 (R297). -/
  | set4L
  /-- `SET 4,(HL)`, 0xCB 0xE6 (R297). -/
  | set4AtHl
  /-- `SET 4,A`, 0xCB 0xE7 (R297). -/
  | set4A
  /-- `SET 5,B`, 0xCB 0xE8 (R297). -/
  | set5B
  /-- `SET 5,C`, 0xCB 0xE9 (R297). -/
  | set5C
  /-- `SET 5,D`, 0xCB 0xEA (R297). -/
  | set5D
  /-- `SET 5,E`, 0xCB 0xEB (R297). -/
  | set5E
  /-- `SET 5,H`, 0xCB 0xEC (R297). -/
  | set5H
  /-- `SET 5,L`, 0xCB 0xED (R297). -/
  | set5L
  /-- `SET 5,(HL)`, 0xCB 0xEE (R297). -/
  | set5AtHl
  /-- `SET 5,A`, 0xCB 0xEF (R297). -/
  | set5A
  /-- `SET 6,B`, 0xCB 0xF0 (R297). -/
  | set6B
  /-- `SET 6,C`, 0xCB 0xF1 (R297). -/
  | set6C
  /-- `SET 6,D`, 0xCB 0xF2 (R297). -/
  | set6D
  /-- `SET 6,E`, 0xCB 0xF3 (R297). -/
  | set6E
  /-- `SET 6,H`, 0xCB 0xF4 (R297). -/
  | set6H
  /-- `SET 6,L`, 0xCB 0xF5 (R297). -/
  | set6L
  /-- `SET 6,(HL)`, 0xCB 0xF6 (R297). -/
  | set6AtHl
  /-- `SET 6,A`, 0xCB 0xF7 (R297). -/
  | set6A
  /-- `SET 7,B`, 0xCB 0xF8 (R297). -/
  | set7B
  /-- `SET 7,C`, 0xCB 0xF9 (R297). -/
  | set7C
  /-- `SET 7,D`, 0xCB 0xFA (R297). -/
  | set7D
  /-- `SET 7,E`, 0xCB 0xFB (R297). -/
  | set7E
  /-- `SET 7,H`, 0xCB 0xFC (R297). -/
  | set7H
  /-- `SET 7,L`, 0xCB 0xFD (R297). -/
  | set7L
  /-- `SET 7,(HL)`, 0xCB 0xFE (R297). -/
  | set7AtHl
  /-- `SET 7,A`, 0xCB 0xFF (R297). -/
  | set7A
  deriving DecidableEq, Repr

end Sys2Proof
end

