-- ==== Sys2Proof/WellFormed.lean ====
section
/-! DEFINITION. Which terms of Instr stand for an instruction of the machine's stream. Every operand is typed
at the width its field has, so one check is left: 0xCB "is not an instruction on its own"
(spec/45_system.md R336); the pair 0xCB b1 is the CB row's instruction. -/

namespace Sys2Proof

/-- Whether `i` is what the decoder can read from the stream: every constructor but the bare prefix row
(R134, R336). -/
def Instr.wellFormed (i : Instr) : Bool :=
  match i with
  | .prefixCb _ => false
  | _ => true

end Sys2Proof
end

