-- ==== Sys2Proof/Decode.lean ====
section
/-! DEFINITION. Decoding, total on any bytes, and encoding (spec/30_encoding.md R121 to R137). The two opcode
maps are the grids of R132 and R133: one list per high nibble, the low nibble counting along it. -/

namespace Sys2Proof

/-- Why bytes are rejected. -/
inductive DecodeError where
  /-- No byte, or fewer operand bytes than the opcode's format has. -/
  | truncated
  /-- The map has no row for the opcode (R338). Unreachable: the maps are total. -/
  | noRow (opcode : Byte)
  deriving DecidableEq, Repr

/-- The row 0x of the CB map (R133). -/
def cbRow0 : List Instr :=
  [.rlcB, .rlcC, .rlcD, .rlcE, .rlcH, .rlcL, .rlcAtHl, .rlcA,
   .rrcB, .rrcC, .rrcD, .rrcE, .rrcH, .rrcL, .rrcAtHl, .rrcA]

/-- The row 1x of the CB map (R133). -/
def cbRow1 : List Instr :=
  [.rlB, .rlC, .rlD, .rlE, .rlH, .rlL, .rlAtHl, .rlA,
   .rrB, .rrC, .rrD, .rrE, .rrH, .rrL, .rrAtHl, .rrA]

/-- The row 2x of the CB map (R133). -/
def cbRow2 : List Instr :=
  [.slaB, .slaC, .slaD, .slaE, .slaH, .slaL, .slaAtHl, .slaA,
   .sraB, .sraC, .sraD, .sraE, .sraH, .sraL, .sraAtHl, .sraA]

/-- The row 3x of the CB map (R133). -/
def cbRow3 : List Instr :=
  [.swapB, .swapC, .swapD, .swapE, .swapH, .swapL, .swapAtHl, .swapA,
   .srlB, .srlC, .srlD, .srlE, .srlH, .srlL, .srlAtHl, .srlA]

/-- The row 4x of the CB map (R133). -/
def cbRow4 : List Instr :=
  [.bit0B, .bit0C, .bit0D, .bit0E, .bit0H, .bit0L, .bit0AtHl, .bit0A,
   .bit1B, .bit1C, .bit1D, .bit1E, .bit1H, .bit1L, .bit1AtHl, .bit1A]

/-- The row 5x of the CB map (R133). -/
def cbRow5 : List Instr :=
  [.bit2B, .bit2C, .bit2D, .bit2E, .bit2H, .bit2L, .bit2AtHl, .bit2A,
   .bit3B, .bit3C, .bit3D, .bit3E, .bit3H, .bit3L, .bit3AtHl, .bit3A]

/-- The row 6x of the CB map (R133). -/
def cbRow6 : List Instr :=
  [.bit4B, .bit4C, .bit4D, .bit4E, .bit4H, .bit4L, .bit4AtHl, .bit4A,
   .bit5B, .bit5C, .bit5D, .bit5E, .bit5H, .bit5L, .bit5AtHl, .bit5A]

/-- The row 7x of the CB map (R133). -/
def cbRow7 : List Instr :=
  [.bit6B, .bit6C, .bit6D, .bit6E, .bit6H, .bit6L, .bit6AtHl, .bit6A,
   .bit7B, .bit7C, .bit7D, .bit7E, .bit7H, .bit7L, .bit7AtHl, .bit7A]

/-- The row 8x of the CB map (R133). -/
def cbRow8 : List Instr :=
  [.res0B, .res0C, .res0D, .res0E, .res0H, .res0L, .res0AtHl, .res0A,
   .res1B, .res1C, .res1D, .res1E, .res1H, .res1L, .res1AtHl, .res1A]

/-- The row 9x of the CB map (R133). -/
def cbRow9 : List Instr :=
  [.res2B, .res2C, .res2D, .res2E, .res2H, .res2L, .res2AtHl, .res2A,
   .res3B, .res3C, .res3D, .res3E, .res3H, .res3L, .res3AtHl, .res3A]

/-- The row Ax of the CB map (R133). -/
def cbRowA : List Instr :=
  [.res4B, .res4C, .res4D, .res4E, .res4H, .res4L, .res4AtHl, .res4A,
   .res5B, .res5C, .res5D, .res5E, .res5H, .res5L, .res5AtHl, .res5A]

/-- The row Bx of the CB map (R133). -/
def cbRowB : List Instr :=
  [.res6B, .res6C, .res6D, .res6E, .res6H, .res6L, .res6AtHl, .res6A,
   .res7B, .res7C, .res7D, .res7E, .res7H, .res7L, .res7AtHl, .res7A]

/-- The row Cx of the CB map (R133). -/
def cbRowC : List Instr :=
  [.set0B, .set0C, .set0D, .set0E, .set0H, .set0L, .set0AtHl, .set0A,
   .set1B, .set1C, .set1D, .set1E, .set1H, .set1L, .set1AtHl, .set1A]

/-- The row Dx of the CB map (R133). -/
def cbRowD : List Instr :=
  [.set2B, .set2C, .set2D, .set2E, .set2H, .set2L, .set2AtHl, .set2A,
   .set3B, .set3C, .set3D, .set3E, .set3H, .set3L, .set3AtHl, .set3A]

/-- The row Ex of the CB map (R133). -/
def cbRowE : List Instr :=
  [.set4B, .set4C, .set4D, .set4E, .set4H, .set4L, .set4AtHl, .set4A,
   .set5B, .set5C, .set5D, .set5E, .set5H, .set5L, .set5AtHl, .set5A]

/-- The row Fx of the CB map (R133). -/
def cbRowF : List Instr :=
  [.set6B, .set6C, .set6D, .set6E, .set6H, .set6L, .set6AtHl, .set6A,
   .set7B, .set7C, .set7D, .set7E, .set7H, .set7L, .set7AtHl, .set7A]

/-- The CB map (R133). -/
def cbMap : List Instr :=
  cbRow0 ++ cbRow1 ++ cbRow2 ++ cbRow3 ++ cbRow4 ++ cbRow5 ++ cbRow6 ++ cbRow7 ++
  cbRow8 ++ cbRow9 ++ cbRowA ++ cbRowB ++ cbRowC ++ cbRowD ++ cbRowE ++ cbRowF

/-- The row of the pair 0xCB b1 (R134). -/
def cbInstr? (b1 : Byte) : Option Instr := cbMap[b1.toNat]?

/-- The row 0x of the opcode map (R132), each cell a function of the two bytes after the opcode. -/
def mainRow0 : List (Byte → Byte → Option Instr) :=
  [fun _ _ => some .nop,
   fun lo hi => some (.ldBcD16 (joinBytes hi lo)),
   fun _ _ => some .ldAtBcA,
   fun _ _ => some .incBc,
   fun _ _ => some .incB,
   fun _ _ => some .decB,
   fun n _ => some (.ldBD8 n),
   fun _ _ => some .rlca,
   fun lo hi => some (.ldAtA16Sp (joinBytes hi lo)),
   fun _ _ => some .addHlBc,
   fun _ _ => some .ldAAtBc,
   fun _ _ => some .decBc,
   fun _ _ => some .incC,
   fun _ _ => some .decC,
   fun n _ => some (.ldCD8 n),
   fun _ _ => some .rrca]

/-- The row 1x of the opcode map (R132), each cell a function of the two bytes after the opcode. -/
def mainRow1 : List (Byte → Byte → Option Instr) :=
  [fun _ _ => some .stop,
   fun lo hi => some (.ldDeD16 (joinBytes hi lo)),
   fun _ _ => some .ldAtDeA,
   fun _ _ => some .incDe,
   fun _ _ => some .incD,
   fun _ _ => some .decD,
   fun n _ => some (.ldDD8 n),
   fun _ _ => some .rla,
   fun n _ => some (.jrE8 n),
   fun _ _ => some .addHlDe,
   fun _ _ => some .ldAAtDe,
   fun _ _ => some .decDe,
   fun _ _ => some .incE,
   fun _ _ => some .decE,
   fun n _ => some (.ldED8 n),
   fun _ _ => some .rra]

/-- The row 2x of the opcode map (R132), each cell a function of the two bytes after the opcode. -/
def mainRow2 : List (Byte → Byte → Option Instr) :=
  [fun n _ => some (.jrNzE8 n),
   fun lo hi => some (.ldHlD16 (joinBytes hi lo)),
   fun _ _ => some .ldAtHlIncA,
   fun _ _ => some .incHl,
   fun _ _ => some .incH,
   fun _ _ => some .decH,
   fun n _ => some (.ldHD8 n),
   fun _ _ => some .daa,
   fun n _ => some (.jrZE8 n),
   fun _ _ => some .addHlHl,
   fun _ _ => some .ldAAtHlInc,
   fun _ _ => some .decHl,
   fun _ _ => some .incL,
   fun _ _ => some .decL,
   fun n _ => some (.ldLD8 n),
   fun _ _ => some .cpl]

/-- The row 3x of the opcode map (R132), each cell a function of the two bytes after the opcode. -/
def mainRow3 : List (Byte → Byte → Option Instr) :=
  [fun n _ => some (.jrNcE8 n),
   fun lo hi => some (.ldSpD16 (joinBytes hi lo)),
   fun _ _ => some .ldAtHlDecA,
   fun _ _ => some .incSp,
   fun _ _ => some .incAtHl,
   fun _ _ => some .decAtHl,
   fun n _ => some (.ldAtHlD8 n),
   fun _ _ => some .scf,
   fun n _ => some (.jrCE8 n),
   fun _ _ => some .addHlSp,
   fun _ _ => some .ldAAtHlDec,
   fun _ _ => some .decSp,
   fun _ _ => some .incA,
   fun _ _ => some .decA,
   fun n _ => some (.ldAD8 n),
   fun _ _ => some .ccf]

/-- The row 4x of the opcode map (R132), each cell a function of the two bytes after the opcode. -/
def mainRow4 : List (Byte → Byte → Option Instr) :=
  [fun _ _ => some .ldBB,
   fun _ _ => some .ldBC,
   fun _ _ => some .ldBD,
   fun _ _ => some .ldBE,
   fun _ _ => some .ldBH,
   fun _ _ => some .ldBL,
   fun _ _ => some .ldBAtHl,
   fun _ _ => some .ldBA,
   fun _ _ => some .ldCB,
   fun _ _ => some .ldCC,
   fun _ _ => some .ldCD,
   fun _ _ => some .ldCE,
   fun _ _ => some .ldCH,
   fun _ _ => some .ldCL,
   fun _ _ => some .ldCAtHl,
   fun _ _ => some .ldCA]

/-- The row 5x of the opcode map (R132), each cell a function of the two bytes after the opcode. -/
def mainRow5 : List (Byte → Byte → Option Instr) :=
  [fun _ _ => some .ldDB,
   fun _ _ => some .ldDC,
   fun _ _ => some .ldDD,
   fun _ _ => some .ldDE,
   fun _ _ => some .ldDH,
   fun _ _ => some .ldDL,
   fun _ _ => some .ldDAtHl,
   fun _ _ => some .ldDA,
   fun _ _ => some .ldEB,
   fun _ _ => some .ldEC,
   fun _ _ => some .ldED,
   fun _ _ => some .ldEE,
   fun _ _ => some .ldEH,
   fun _ _ => some .ldEL,
   fun _ _ => some .ldEAtHl,
   fun _ _ => some .ldEA]

/-- The row 6x of the opcode map (R132), each cell a function of the two bytes after the opcode. -/
def mainRow6 : List (Byte → Byte → Option Instr) :=
  [fun _ _ => some .ldHB,
   fun _ _ => some .ldHC,
   fun _ _ => some .ldHD,
   fun _ _ => some .ldHE,
   fun _ _ => some .ldHH,
   fun _ _ => some .ldHL,
   fun _ _ => some .ldHAtHl,
   fun _ _ => some .ldHA,
   fun _ _ => some .ldLB,
   fun _ _ => some .ldLC,
   fun _ _ => some .ldLD,
   fun _ _ => some .ldLE,
   fun _ _ => some .ldLH,
   fun _ _ => some .ldLL,
   fun _ _ => some .ldLAtHl,
   fun _ _ => some .ldLA]

/-- The row 7x of the opcode map (R132), each cell a function of the two bytes after the opcode. -/
def mainRow7 : List (Byte → Byte → Option Instr) :=
  [fun _ _ => some .ldAtHlB,
   fun _ _ => some .ldAtHlC,
   fun _ _ => some .ldAtHlD,
   fun _ _ => some .ldAtHlE,
   fun _ _ => some .ldAtHlH,
   fun _ _ => some .ldAtHlL,
   fun _ _ => some .halt,
   fun _ _ => some .ldAtHlA,
   fun _ _ => some .ldAB,
   fun _ _ => some .ldAC,
   fun _ _ => some .ldAD,
   fun _ _ => some .ldAE,
   fun _ _ => some .ldAH,
   fun _ _ => some .ldAL,
   fun _ _ => some .ldAAtHl,
   fun _ _ => some .ldAA]

/-- The row 8x of the opcode map (R132), each cell a function of the two bytes after the opcode. -/
def mainRow8 : List (Byte → Byte → Option Instr) :=
  [fun _ _ => some .addAB,
   fun _ _ => some .addAC,
   fun _ _ => some .addAD,
   fun _ _ => some .addAE,
   fun _ _ => some .addAH,
   fun _ _ => some .addAL,
   fun _ _ => some .addAAtHl,
   fun _ _ => some .addAA,
   fun _ _ => some .adcAB,
   fun _ _ => some .adcAC,
   fun _ _ => some .adcAD,
   fun _ _ => some .adcAE,
   fun _ _ => some .adcAH,
   fun _ _ => some .adcAL,
   fun _ _ => some .adcAAtHl,
   fun _ _ => some .adcAA]

/-- The row 9x of the opcode map (R132), each cell a function of the two bytes after the opcode. -/
def mainRow9 : List (Byte → Byte → Option Instr) :=
  [fun _ _ => some .subB,
   fun _ _ => some .subC,
   fun _ _ => some .subD,
   fun _ _ => some .subE,
   fun _ _ => some .subH,
   fun _ _ => some .subL,
   fun _ _ => some .subAtHl,
   fun _ _ => some .subA,
   fun _ _ => some .sbcAB,
   fun _ _ => some .sbcAC,
   fun _ _ => some .sbcAD,
   fun _ _ => some .sbcAE,
   fun _ _ => some .sbcAH,
   fun _ _ => some .sbcAL,
   fun _ _ => some .sbcAAtHl,
   fun _ _ => some .sbcAA]

/-- The row Ax of the opcode map (R132), each cell a function of the two bytes after the opcode. -/
def mainRowA : List (Byte → Byte → Option Instr) :=
  [fun _ _ => some .andB,
   fun _ _ => some .andC,
   fun _ _ => some .andD,
   fun _ _ => some .andE,
   fun _ _ => some .andH,
   fun _ _ => some .andL,
   fun _ _ => some .andAtHl,
   fun _ _ => some .andA,
   fun _ _ => some .xorB,
   fun _ _ => some .xorC,
   fun _ _ => some .xorD,
   fun _ _ => some .xorE,
   fun _ _ => some .xorH,
   fun _ _ => some .xorL,
   fun _ _ => some .xorAtHl,
   fun _ _ => some .xorA]

/-- The row Bx of the opcode map (R132), each cell a function of the two bytes after the opcode. -/
def mainRowB : List (Byte → Byte → Option Instr) :=
  [fun _ _ => some .orB,
   fun _ _ => some .orC,
   fun _ _ => some .orD,
   fun _ _ => some .orE,
   fun _ _ => some .orH,
   fun _ _ => some .orL,
   fun _ _ => some .orAtHl,
   fun _ _ => some .orA,
   fun _ _ => some .cpB,
   fun _ _ => some .cpC,
   fun _ _ => some .cpD,
   fun _ _ => some .cpE,
   fun _ _ => some .cpH,
   fun _ _ => some .cpL,
   fun _ _ => some .cpAtHl,
   fun _ _ => some .cpA]

/-- The row Cx of the opcode map (R132), each cell a function of the two bytes after the opcode. -/
def mainRowC : List (Byte → Byte → Option Instr) :=
  [fun _ _ => some .retNz,
   fun _ _ => some .popBc,
   fun lo hi => some (.jpNzA16 (joinBytes hi lo)),
   fun lo hi => some (.jpA16 (joinBytes hi lo)),
   fun lo hi => some (.callNzA16 (joinBytes hi lo)),
   fun _ _ => some .pushBc,
   fun n _ => some (.addAD8 n),
   fun _ _ => some .rst00,
   fun _ _ => some .retZ,
   fun _ _ => some .ret,
   fun lo hi => some (.jpZA16 (joinBytes hi lo)),
   fun b1 _ => cbInstr? b1,
   fun lo hi => some (.callZA16 (joinBytes hi lo)),
   fun lo hi => some (.callA16 (joinBytes hi lo)),
   fun n _ => some (.adcAD8 n),
   fun _ _ => some .rst08]

/-- The row Dx of the opcode map (R132), each cell a function of the two bytes after the opcode. -/
def mainRowD : List (Byte → Byte → Option Instr) :=
  [fun _ _ => some .retNc,
   fun _ _ => some .popDe,
   fun lo hi => some (.jpNcA16 (joinBytes hi lo)),
   fun _ _ => some .illegalD3,
   fun lo hi => some (.callNcA16 (joinBytes hi lo)),
   fun _ _ => some .pushDe,
   fun n _ => some (.subD8 n),
   fun _ _ => some .rst10,
   fun _ _ => some .retC,
   fun _ _ => some .reti,
   fun lo hi => some (.jpCA16 (joinBytes hi lo)),
   fun _ _ => some .illegalDB,
   fun lo hi => some (.callCA16 (joinBytes hi lo)),
   fun _ _ => some .illegalDD,
   fun n _ => some (.sbcAD8 n),
   fun _ _ => some .rst18]

/-- The row Ex of the opcode map (R132), each cell a function of the two bytes after the opcode. -/
def mainRowE : List (Byte → Byte → Option Instr) :=
  [fun n _ => some (.ldhAtA8A n),
   fun _ _ => some .popHl,
   fun _ _ => some .ldAtCA,
   fun _ _ => some .illegalE3,
   fun _ _ => some .illegalE4,
   fun _ _ => some .pushHl,
   fun n _ => some (.andD8 n),
   fun _ _ => some .rst20,
   fun n _ => some (.addSpE8 n),
   fun _ _ => some .jpHl,
   fun lo hi => some (.ldAtA16A (joinBytes hi lo)),
   fun _ _ => some .illegalEB,
   fun _ _ => some .illegalEC,
   fun _ _ => some .illegalED,
   fun n _ => some (.xorD8 n),
   fun _ _ => some .rst28]

/-- The row Fx of the opcode map (R132), each cell a function of the two bytes after the opcode. -/
def mainRowF : List (Byte → Byte → Option Instr) :=
  [fun n _ => some (.ldhAAtA8 n),
   fun _ _ => some .popAf,
   fun _ _ => some .ldAAtC,
   fun _ _ => some .di,
   fun _ _ => some .illegalF4,
   fun _ _ => some .pushAf,
   fun n _ => some (.orD8 n),
   fun _ _ => some .rst30,
   fun n _ => some (.ldHlSpE8 n),
   fun _ _ => some .ldSpHl,
   fun lo hi => some (.ldAAtA16 (joinBytes hi lo)),
   fun _ _ => some .ei,
   fun _ _ => some .illegalFC,
   fun _ _ => some .illegalFD,
   fun n _ => some (.cpD8 n),
   fun _ _ => some .rst38]

/-- The opcode map (R132); the cell 0xCB goes on to the CB map (R134, R336). -/
def mainMap : List (Byte → Byte → Option Instr) :=
  mainRow0 ++ mainRow1 ++ mainRow2 ++ mainRow3 ++ mainRow4 ++ mainRow5 ++ mainRow6 ++ mainRow7 ++
  mainRow8 ++ mainRow9 ++ mainRowA ++ mainRowB ++ mainRowC ++ mainRowD ++ mainRowE ++ mainRowF

/-- How many bytes after the opcode are fetched (the formats of R122, by the grid of R132). STOP's ignored
second byte is none of them: R412 refuses before it is read (log entry 11). -/
def operandCounts : List Nat :=
  [0, 2, 0, 0, 0, 0, 1, 0, 2, 0, 0, 0, 0, 0, 1, 0] ++
  [0, 2, 0, 0, 0, 0, 1, 0, 1, 0, 0, 0, 0, 0, 1, 0] ++
  [1, 2, 0, 0, 0, 0, 1, 0, 1, 0, 0, 0, 0, 0, 1, 0] ++
  [1, 2, 0, 0, 0, 0, 1, 0, 1, 0, 0, 0, 0, 0, 1, 0] ++
  [0, 0, 0, 0, 0, 0, 0, 0, 0, 0, 0, 0, 0, 0, 0, 0] ++
  [0, 0, 0, 0, 0, 0, 0, 0, 0, 0, 0, 0, 0, 0, 0, 0] ++
  [0, 0, 0, 0, 0, 0, 0, 0, 0, 0, 0, 0, 0, 0, 0, 0] ++
  [0, 0, 0, 0, 0, 0, 0, 0, 0, 0, 0, 0, 0, 0, 0, 0] ++
  [0, 0, 0, 0, 0, 0, 0, 0, 0, 0, 0, 0, 0, 0, 0, 0] ++
  [0, 0, 0, 0, 0, 0, 0, 0, 0, 0, 0, 0, 0, 0, 0, 0] ++
  [0, 0, 0, 0, 0, 0, 0, 0, 0, 0, 0, 0, 0, 0, 0, 0] ++
  [0, 0, 0, 0, 0, 0, 0, 0, 0, 0, 0, 0, 0, 0, 0, 0] ++
  [0, 0, 2, 2, 2, 0, 1, 0, 0, 0, 2, 1, 2, 2, 1, 0] ++
  [0, 0, 2, 0, 2, 0, 1, 0, 0, 0, 2, 0, 2, 0, 1, 0] ++
  [1, 0, 0, 0, 0, 0, 1, 0, 1, 0, 2, 0, 0, 0, 1, 0] ++
  [1, 0, 0, 0, 0, 0, 1, 0, 1, 0, 2, 0, 0, 0, 1, 0]

/-- The number of operand bytes of an opcode (R122, R134). -/
def operandCount (op : Byte) : Nat := operandCounts.getD op.toNat 0

/-- Read one instruction from the front of `bytes`; bytes after it are not looked at (R134). -/
def decode (bytes : List Byte) : Except DecodeError Instr :=
  match bytes with
  | [] => .error .truncated
  | op :: rest =>
    if rest.length < operandCount op then .error .truncated
    else
      match mainMap[op.toNat]? with
      | none => .error (.noRow op)
      | some cell =>
        match cell (rest.getD 0 0x00) (rest.getD 1 0x00) with
        | none => .error (.noRow op)
        | some i => .ok i

/-- The bytes of an instruction, the first at the lowest address (R121, R122, R129). STOP's ignored second
byte is written 0x00. -/
def encode (i : Instr) : List Byte :=
  match i with
  | .nop => [0x00]
  | .ldBcD16 n => [0x01, loByte n, hiByte n]
  | .ldAtBcA => [0x02]
  | .incBc => [0x03]
  | .incB => [0x04]
  | .decB => [0x05]
  | .ldBD8 n => [0x06, n]
  | .rlca => [0x07]
  | .ldAtA16Sp a => [0x08, loByte a, hiByte a]
  | .addHlBc => [0x09]
  | .ldAAtBc => [0x0A]
  | .decBc => [0x0B]
  | .incC => [0x0C]
  | .decC => [0x0D]
  | .ldCD8 n => [0x0E, n]
  | .rrca => [0x0F]
  | .stop => [0x10, 0x00]
  | .ldDeD16 n => [0x11, loByte n, hiByte n]
  | .ldAtDeA => [0x12]
  | .incDe => [0x13]
  | .incD => [0x14]
  | .decD => [0x15]
  | .ldDD8 n => [0x16, n]
  | .rla => [0x17]
  | .jrE8 n => [0x18, n]
  | .addHlDe => [0x19]
  | .ldAAtDe => [0x1A]
  | .decDe => [0x1B]
  | .incE => [0x1C]
  | .decE => [0x1D]
  | .ldED8 n => [0x1E, n]
  | .rra => [0x1F]
  | .jrNzE8 n => [0x20, n]
  | .ldHlD16 n => [0x21, loByte n, hiByte n]
  | .ldAtHlIncA => [0x22]
  | .incHl => [0x23]
  | .incH => [0x24]
  | .decH => [0x25]
  | .ldHD8 n => [0x26, n]
  | .daa => [0x27]
  | .jrZE8 n => [0x28, n]
  | .addHlHl => [0x29]
  | .ldAAtHlInc => [0x2A]
  | .decHl => [0x2B]
  | .incL => [0x2C]
  | .decL => [0x2D]
  | .ldLD8 n => [0x2E, n]
  | .cpl => [0x2F]
  | .jrNcE8 n => [0x30, n]
  | .ldSpD16 n => [0x31, loByte n, hiByte n]
  | .ldAtHlDecA => [0x32]
  | .incSp => [0x33]
  | .incAtHl => [0x34]
  | .decAtHl => [0x35]
  | .ldAtHlD8 n => [0x36, n]
  | .scf => [0x37]
  | .jrCE8 n => [0x38, n]
  | .addHlSp => [0x39]
  | .ldAAtHlDec => [0x3A]
  | .decSp => [0x3B]
  | .incA => [0x3C]
  | .decA => [0x3D]
  | .ldAD8 n => [0x3E, n]
  | .ccf => [0x3F]
  | .ldBB => [0x40]
  | .ldBC => [0x41]
  | .ldBD => [0x42]
  | .ldBE => [0x43]
  | .ldBH => [0x44]
  | .ldBL => [0x45]
  | .ldBAtHl => [0x46]
  | .ldBA => [0x47]
  | .ldCB => [0x48]
  | .ldCC => [0x49]
  | .ldCD => [0x4A]
  | .ldCE => [0x4B]
  | .ldCH => [0x4C]
  | .ldCL => [0x4D]
  | .ldCAtHl => [0x4E]
  | .ldCA => [0x4F]
  | .ldDB => [0x50]
  | .ldDC => [0x51]
  | .ldDD => [0x52]
  | .ldDE => [0x53]
  | .ldDH => [0x54]
  | .ldDL => [0x55]
  | .ldDAtHl => [0x56]
  | .ldDA => [0x57]
  | .ldEB => [0x58]
  | .ldEC => [0x59]
  | .ldED => [0x5A]
  | .ldEE => [0x5B]
  | .ldEH => [0x5C]
  | .ldEL => [0x5D]
  | .ldEAtHl => [0x5E]
  | .ldEA => [0x5F]
  | .ldHB => [0x60]
  | .ldHC => [0x61]
  | .ldHD => [0x62]
  | .ldHE => [0x63]
  | .ldHH => [0x64]
  | .ldHL => [0x65]
  | .ldHAtHl => [0x66]
  | .ldHA => [0x67]
  | .ldLB => [0x68]
  | .ldLC => [0x69]
  | .ldLD => [0x6A]
  | .ldLE => [0x6B]
  | .ldLH => [0x6C]
  | .ldLL => [0x6D]
  | .ldLAtHl => [0x6E]
  | .ldLA => [0x6F]
  | .ldAtHlB => [0x70]
  | .ldAtHlC => [0x71]
  | .ldAtHlD => [0x72]
  | .ldAtHlE => [0x73]
  | .ldAtHlH => [0x74]
  | .ldAtHlL => [0x75]
  | .halt => [0x76]
  | .ldAtHlA => [0x77]
  | .ldAB => [0x78]
  | .ldAC => [0x79]
  | .ldAD => [0x7A]
  | .ldAE => [0x7B]
  | .ldAH => [0x7C]
  | .ldAL => [0x7D]
  | .ldAAtHl => [0x7E]
  | .ldAA => [0x7F]
  | .addAB => [0x80]
  | .addAC => [0x81]
  | .addAD => [0x82]
  | .addAE => [0x83]
  | .addAH => [0x84]
  | .addAL => [0x85]
  | .addAAtHl => [0x86]
  | .addAA => [0x87]
  | .adcAB => [0x88]
  | .adcAC => [0x89]
  | .adcAD => [0x8A]
  | .adcAE => [0x8B]
  | .adcAH => [0x8C]
  | .adcAL => [0x8D]
  | .adcAAtHl => [0x8E]
  | .adcAA => [0x8F]
  | .subB => [0x90]
  | .subC => [0x91]
  | .subD => [0x92]
  | .subE => [0x93]
  | .subH => [0x94]
  | .subL => [0x95]
  | .subAtHl => [0x96]
  | .subA => [0x97]
  | .sbcAB => [0x98]
  | .sbcAC => [0x99]
  | .sbcAD => [0x9A]
  | .sbcAE => [0x9B]
  | .sbcAH => [0x9C]
  | .sbcAL => [0x9D]
  | .sbcAAtHl => [0x9E]
  | .sbcAA => [0x9F]
  | .andB => [0xA0]
  | .andC => [0xA1]
  | .andD => [0xA2]
  | .andE => [0xA3]
  | .andH => [0xA4]
  | .andL => [0xA5]
  | .andAtHl => [0xA6]
  | .andA => [0xA7]
  | .xorB => [0xA8]
  | .xorC => [0xA9]
  | .xorD => [0xAA]
  | .xorE => [0xAB]
  | .xorH => [0xAC]
  | .xorL => [0xAD]
  | .xorAtHl => [0xAE]
  | .xorA => [0xAF]
  | .orB => [0xB0]
  | .orC => [0xB1]
  | .orD => [0xB2]
  | .orE => [0xB3]
  | .orH => [0xB4]
  | .orL => [0xB5]
  | .orAtHl => [0xB6]
  | .orA => [0xB7]
  | .cpB => [0xB8]
  | .cpC => [0xB9]
  | .cpD => [0xBA]
  | .cpE => [0xBB]
  | .cpH => [0xBC]
  | .cpL => [0xBD]
  | .cpAtHl => [0xBE]
  | .cpA => [0xBF]
  | .retNz => [0xC0]
  | .popBc => [0xC1]
  | .jpNzA16 a => [0xC2, loByte a, hiByte a]
  | .jpA16 a => [0xC3, loByte a, hiByte a]
  | .callNzA16 a => [0xC4, loByte a, hiByte a]
  | .pushBc => [0xC5]
  | .addAD8 n => [0xC6, n]
  | .rst00 => [0xC7]
  | .retZ => [0xC8]
  | .ret => [0xC9]
  | .jpZA16 a => [0xCA, loByte a, hiByte a]
  | .prefixCb n => [0xCB, n]
  | .callZA16 a => [0xCC, loByte a, hiByte a]
  | .callA16 a => [0xCD, loByte a, hiByte a]
  | .adcAD8 n => [0xCE, n]
  | .rst08 => [0xCF]
  | .retNc => [0xD0]
  | .popDe => [0xD1]
  | .jpNcA16 a => [0xD2, loByte a, hiByte a]
  | .illegalD3 => [0xD3]
  | .callNcA16 a => [0xD4, loByte a, hiByte a]
  | .pushDe => [0xD5]
  | .subD8 n => [0xD6, n]
  | .rst10 => [0xD7]
  | .retC => [0xD8]
  | .reti => [0xD9]
  | .jpCA16 a => [0xDA, loByte a, hiByte a]
  | .illegalDB => [0xDB]
  | .callCA16 a => [0xDC, loByte a, hiByte a]
  | .illegalDD => [0xDD]
  | .sbcAD8 n => [0xDE, n]
  | .rst18 => [0xDF]
  | .ldhAtA8A n => [0xE0, n]
  | .popHl => [0xE1]
  | .ldAtCA => [0xE2]
  | .illegalE3 => [0xE3]
  | .illegalE4 => [0xE4]
  | .pushHl => [0xE5]
  | .andD8 n => [0xE6, n]
  | .rst20 => [0xE7]
  | .addSpE8 n => [0xE8, n]
  | .jpHl => [0xE9]
  | .ldAtA16A a => [0xEA, loByte a, hiByte a]
  | .illegalEB => [0xEB]
  | .illegalEC => [0xEC]
  | .illegalED => [0xED]
  | .xorD8 n => [0xEE, n]
  | .rst28 => [0xEF]
  | .ldhAAtA8 n => [0xF0, n]
  | .popAf => [0xF1]
  | .ldAAtC => [0xF2]
  | .di => [0xF3]
  | .illegalF4 => [0xF4]
  | .pushAf => [0xF5]
  | .orD8 n => [0xF6, n]
  | .rst30 => [0xF7]
  | .ldHlSpE8 n => [0xF8, n]
  | .ldSpHl => [0xF9]
  | .ldAAtA16 a => [0xFA, loByte a, hiByte a]
  | .ei => [0xFB]
  | .illegalFC => [0xFC]
  | .illegalFD => [0xFD]
  | .cpD8 n => [0xFE, n]
  | .rst38 => [0xFF]
  | .rlcB => [0xCB, 0x00]
  | .rlcC => [0xCB, 0x01]
  | .rlcD => [0xCB, 0x02]
  | .rlcE => [0xCB, 0x03]
  | .rlcH => [0xCB, 0x04]
  | .rlcL => [0xCB, 0x05]
  | .rlcAtHl => [0xCB, 0x06]
  | .rlcA => [0xCB, 0x07]
  | .rrcB => [0xCB, 0x08]
  | .rrcC => [0xCB, 0x09]
  | .rrcD => [0xCB, 0x0A]
  | .rrcE => [0xCB, 0x0B]
  | .rrcH => [0xCB, 0x0C]
  | .rrcL => [0xCB, 0x0D]
  | .rrcAtHl => [0xCB, 0x0E]
  | .rrcA => [0xCB, 0x0F]
  | .rlB => [0xCB, 0x10]
  | .rlC => [0xCB, 0x11]
  | .rlD => [0xCB, 0x12]
  | .rlE => [0xCB, 0x13]
  | .rlH => [0xCB, 0x14]
  | .rlL => [0xCB, 0x15]
  | .rlAtHl => [0xCB, 0x16]
  | .rlA => [0xCB, 0x17]
  | .rrB => [0xCB, 0x18]
  | .rrC => [0xCB, 0x19]
  | .rrD => [0xCB, 0x1A]
  | .rrE => [0xCB, 0x1B]
  | .rrH => [0xCB, 0x1C]
  | .rrL => [0xCB, 0x1D]
  | .rrAtHl => [0xCB, 0x1E]
  | .rrA => [0xCB, 0x1F]
  | .slaB => [0xCB, 0x20]
  | .slaC => [0xCB, 0x21]
  | .slaD => [0xCB, 0x22]
  | .slaE => [0xCB, 0x23]
  | .slaH => [0xCB, 0x24]
  | .slaL => [0xCB, 0x25]
  | .slaAtHl => [0xCB, 0x26]
  | .slaA => [0xCB, 0x27]
  | .sraB => [0xCB, 0x28]
  | .sraC => [0xCB, 0x29]
  | .sraD => [0xCB, 0x2A]
  | .sraE => [0xCB, 0x2B]
  | .sraH => [0xCB, 0x2C]
  | .sraL => [0xCB, 0x2D]
  | .sraAtHl => [0xCB, 0x2E]
  | .sraA => [0xCB, 0x2F]
  | .swapB => [0xCB, 0x30]
  | .swapC => [0xCB, 0x31]
  | .swapD => [0xCB, 0x32]
  | .swapE => [0xCB, 0x33]
  | .swapH => [0xCB, 0x34]
  | .swapL => [0xCB, 0x35]
  | .swapAtHl => [0xCB, 0x36]
  | .swapA => [0xCB, 0x37]
  | .srlB => [0xCB, 0x38]
  | .srlC => [0xCB, 0x39]
  | .srlD => [0xCB, 0x3A]
  | .srlE => [0xCB, 0x3B]
  | .srlH => [0xCB, 0x3C]
  | .srlL => [0xCB, 0x3D]
  | .srlAtHl => [0xCB, 0x3E]
  | .srlA => [0xCB, 0x3F]
  | .bit0B => [0xCB, 0x40]
  | .bit0C => [0xCB, 0x41]
  | .bit0D => [0xCB, 0x42]
  | .bit0E => [0xCB, 0x43]
  | .bit0H => [0xCB, 0x44]
  | .bit0L => [0xCB, 0x45]
  | .bit0AtHl => [0xCB, 0x46]
  | .bit0A => [0xCB, 0x47]
  | .bit1B => [0xCB, 0x48]
  | .bit1C => [0xCB, 0x49]
  | .bit1D => [0xCB, 0x4A]
  | .bit1E => [0xCB, 0x4B]
  | .bit1H => [0xCB, 0x4C]
  | .bit1L => [0xCB, 0x4D]
  | .bit1AtHl => [0xCB, 0x4E]
  | .bit1A => [0xCB, 0x4F]
  | .bit2B => [0xCB, 0x50]
  | .bit2C => [0xCB, 0x51]
  | .bit2D => [0xCB, 0x52]
  | .bit2E => [0xCB, 0x53]
  | .bit2H => [0xCB, 0x54]
  | .bit2L => [0xCB, 0x55]
  | .bit2AtHl => [0xCB, 0x56]
  | .bit2A => [0xCB, 0x57]
  | .bit3B => [0xCB, 0x58]
  | .bit3C => [0xCB, 0x59]
  | .bit3D => [0xCB, 0x5A]
  | .bit3E => [0xCB, 0x5B]
  | .bit3H => [0xCB, 0x5C]
  | .bit3L => [0xCB, 0x5D]
  | .bit3AtHl => [0xCB, 0x5E]
  | .bit3A => [0xCB, 0x5F]
  | .bit4B => [0xCB, 0x60]
  | .bit4C => [0xCB, 0x61]
  | .bit4D => [0xCB, 0x62]
  | .bit4E => [0xCB, 0x63]
  | .bit4H => [0xCB, 0x64]
  | .bit4L => [0xCB, 0x65]
  | .bit4AtHl => [0xCB, 0x66]
  | .bit4A => [0xCB, 0x67]
  | .bit5B => [0xCB, 0x68]
  | .bit5C => [0xCB, 0x69]
  | .bit5D => [0xCB, 0x6A]
  | .bit5E => [0xCB, 0x6B]
  | .bit5H => [0xCB, 0x6C]
  | .bit5L => [0xCB, 0x6D]
  | .bit5AtHl => [0xCB, 0x6E]
  | .bit5A => [0xCB, 0x6F]
  | .bit6B => [0xCB, 0x70]
  | .bit6C => [0xCB, 0x71]
  | .bit6D => [0xCB, 0x72]
  | .bit6E => [0xCB, 0x73]
  | .bit6H => [0xCB, 0x74]
  | .bit6L => [0xCB, 0x75]
  | .bit6AtHl => [0xCB, 0x76]
  | .bit6A => [0xCB, 0x77]
  | .bit7B => [0xCB, 0x78]
  | .bit7C => [0xCB, 0x79]
  | .bit7D => [0xCB, 0x7A]
  | .bit7E => [0xCB, 0x7B]
  | .bit7H => [0xCB, 0x7C]
  | .bit7L => [0xCB, 0x7D]
  | .bit7AtHl => [0xCB, 0x7E]
  | .bit7A => [0xCB, 0x7F]
  | .res0B => [0xCB, 0x80]
  | .res0C => [0xCB, 0x81]
  | .res0D => [0xCB, 0x82]
  | .res0E => [0xCB, 0x83]
  | .res0H => [0xCB, 0x84]
  | .res0L => [0xCB, 0x85]
  | .res0AtHl => [0xCB, 0x86]
  | .res0A => [0xCB, 0x87]
  | .res1B => [0xCB, 0x88]
  | .res1C => [0xCB, 0x89]
  | .res1D => [0xCB, 0x8A]
  | .res1E => [0xCB, 0x8B]
  | .res1H => [0xCB, 0x8C]
  | .res1L => [0xCB, 0x8D]
  | .res1AtHl => [0xCB, 0x8E]
  | .res1A => [0xCB, 0x8F]
  | .res2B => [0xCB, 0x90]
  | .res2C => [0xCB, 0x91]
  | .res2D => [0xCB, 0x92]
  | .res2E => [0xCB, 0x93]
  | .res2H => [0xCB, 0x94]
  | .res2L => [0xCB, 0x95]
  | .res2AtHl => [0xCB, 0x96]
  | .res2A => [0xCB, 0x97]
  | .res3B => [0xCB, 0x98]
  | .res3C => [0xCB, 0x99]
  | .res3D => [0xCB, 0x9A]
  | .res3E => [0xCB, 0x9B]
  | .res3H => [0xCB, 0x9C]
  | .res3L => [0xCB, 0x9D]
  | .res3AtHl => [0xCB, 0x9E]
  | .res3A => [0xCB, 0x9F]
  | .res4B => [0xCB, 0xA0]
  | .res4C => [0xCB, 0xA1]
  | .res4D => [0xCB, 0xA2]
  | .res4E => [0xCB, 0xA3]
  | .res4H => [0xCB, 0xA4]
  | .res4L => [0xCB, 0xA5]
  | .res4AtHl => [0xCB, 0xA6]
  | .res4A => [0xCB, 0xA7]
  | .res5B => [0xCB, 0xA8]
  | .res5C => [0xCB, 0xA9]
  | .res5D => [0xCB, 0xAA]
  | .res5E => [0xCB, 0xAB]
  | .res5H => [0xCB, 0xAC]
  | .res5L => [0xCB, 0xAD]
  | .res5AtHl => [0xCB, 0xAE]
  | .res5A => [0xCB, 0xAF]
  | .res6B => [0xCB, 0xB0]
  | .res6C => [0xCB, 0xB1]
  | .res6D => [0xCB, 0xB2]
  | .res6E => [0xCB, 0xB3]
  | .res6H => [0xCB, 0xB4]
  | .res6L => [0xCB, 0xB5]
  | .res6AtHl => [0xCB, 0xB6]
  | .res6A => [0xCB, 0xB7]
  | .res7B => [0xCB, 0xB8]
  | .res7C => [0xCB, 0xB9]
  | .res7D => [0xCB, 0xBA]
  | .res7E => [0xCB, 0xBB]
  | .res7H => [0xCB, 0xBC]
  | .res7L => [0xCB, 0xBD]
  | .res7AtHl => [0xCB, 0xBE]
  | .res7A => [0xCB, 0xBF]
  | .set0B => [0xCB, 0xC0]
  | .set0C => [0xCB, 0xC1]
  | .set0D => [0xCB, 0xC2]
  | .set0E => [0xCB, 0xC3]
  | .set0H => [0xCB, 0xC4]
  | .set0L => [0xCB, 0xC5]
  | .set0AtHl => [0xCB, 0xC6]
  | .set0A => [0xCB, 0xC7]
  | .set1B => [0xCB, 0xC8]
  | .set1C => [0xCB, 0xC9]
  | .set1D => [0xCB, 0xCA]
  | .set1E => [0xCB, 0xCB]
  | .set1H => [0xCB, 0xCC]
  | .set1L => [0xCB, 0xCD]
  | .set1AtHl => [0xCB, 0xCE]
  | .set1A => [0xCB, 0xCF]
  | .set2B => [0xCB, 0xD0]
  | .set2C => [0xCB, 0xD1]
  | .set2D => [0xCB, 0xD2]
  | .set2E => [0xCB, 0xD3]
  | .set2H => [0xCB, 0xD4]
  | .set2L => [0xCB, 0xD5]
  | .set2AtHl => [0xCB, 0xD6]
  | .set2A => [0xCB, 0xD7]
  | .set3B => [0xCB, 0xD8]
  | .set3C => [0xCB, 0xD9]
  | .set3D => [0xCB, 0xDA]
  | .set3E => [0xCB, 0xDB]
  | .set3H => [0xCB, 0xDC]
  | .set3L => [0xCB, 0xDD]
  | .set3AtHl => [0xCB, 0xDE]
  | .set3A => [0xCB, 0xDF]
  | .set4B => [0xCB, 0xE0]
  | .set4C => [0xCB, 0xE1]
  | .set4D => [0xCB, 0xE2]
  | .set4E => [0xCB, 0xE3]
  | .set4H => [0xCB, 0xE4]
  | .set4L => [0xCB, 0xE5]
  | .set4AtHl => [0xCB, 0xE6]
  | .set4A => [0xCB, 0xE7]
  | .set5B => [0xCB, 0xE8]
  | .set5C => [0xCB, 0xE9]
  | .set5D => [0xCB, 0xEA]
  | .set5E => [0xCB, 0xEB]
  | .set5H => [0xCB, 0xEC]
  | .set5L => [0xCB, 0xED]
  | .set5AtHl => [0xCB, 0xEE]
  | .set5A => [0xCB, 0xEF]
  | .set6B => [0xCB, 0xF0]
  | .set6C => [0xCB, 0xF1]
  | .set6D => [0xCB, 0xF2]
  | .set6E => [0xCB, 0xF3]
  | .set6H => [0xCB, 0xF4]
  | .set6L => [0xCB, 0xF5]
  | .set6AtHl => [0xCB, 0xF6]
  | .set6A => [0xCB, 0xF7]
  | .set7B => [0xCB, 0xF8]
  | .set7C => [0xCB, 0xF9]
  | .set7D => [0xCB, 0xFA]
  | .set7E => [0xCB, 0xFB]
  | .set7H => [0xCB, 0xFC]
  | .set7L => [0xCB, 0xFD]
  | .set7AtHl => [0xCB, 0xFE]
  | .set7A => [0xCB, 0xFF]

/-- The opcode byte, or 0xCB00 + the second byte of a CB row (R338): the key of `COST` (R131). -/
def opcodeKey (bytes : List Byte) : Nat :=
  match bytes with
  | [] => 0
  | [b] => b.toNat
  | b :: b1 :: _ => if b = 0xCB then 0xCB00 + b1.toNat else b.toNat

/-- The bytes of an instruction whose opcode-table bits are `w`: the first byte is bits 7 to 0, the second
bits 15 to 8, the third bits 23 to 16. A CB row is one 16-bit number in the table, 0xCB00 + the second
byte, so there the prefix in bits 15 to 8 is the first byte. Log entry 2. -/
def tableBytes (nbits w : Nat) : List Byte :=
  if nbits = 16 ∧ w / 0x100 = 0xCB then [0xCB, BitVec.ofNat 8 w, 0x00]
  else [BitVec.ofNat 8 w, BitVec.ofNat 8 (w / 0x100), BitVec.ofNat 8 (w / 0x10000)]

/-- The instruction the decoder reads from the table's bits `w`. -/
def decodeTableWord (nbits w : Nat) : Option Instr :=
  match decode (tableBytes nbits w) with
  | .ok i => some i
  | .error _ => none

end Sys2Proof
end

