-- ==== Sys2Proof/Machine/Memory.lean ====
section
/-! DEFINITION. Memory as a list of (address, byte) cells in canonical form: addresses strictly rising,
no byte equal to 0x00, which is what an unlisted address reads as (spec/70_reset_and_hazards.md R503:
`HI_INIT` is 0x00 everywhere by default; log entries 5 and 6). -/

namespace Sys2Proof.Machine

/-- The canonical form. -/
abbrev Memory.wf (m : List Host.Cell) : Prop :=
  m.Pairwise (fun c d => c.1 < d.1) ∧ ∀ c ∈ m, c.2 ≠ 0#8

/-- The byte at address `n`; 0x00 where nothing is listed. -/
def Memory.get (m : List Host.Cell) (n : Nat) : Byte :=
  match m with
  | [] => 0x00
  | (k, v) :: r => if k = n then v else Memory.get r n

/-- The cells without address `n`. -/
def Memory.erase (m : List Host.Cell) (n : Nat) : List Host.Cell :=
  match m with
  | [] => []
  | (k, v) :: r => if k = n then Memory.erase r n else (k, v) :: Memory.erase r n

/-- The cells with `(n, v)` at its place in the order. -/
def Memory.insert (m : List Host.Cell) (n : Nat) (v : Byte) : List Host.Cell :=
  match m with
  | [] => [(n, v)]
  | (k, w) :: r => if n < k then (n, v) :: (k, w) :: r else (k, w) :: Memory.insert r n v

/-- Store `v` at `n`, keeping the canonical form: storing 0x00 removes the cell. -/
def Memory.set (m : List Host.Cell) (n : Nat) (v : Byte) : List Host.Cell :=
  if v = 0x00 then Memory.erase m n else Memory.insert (Memory.erase m n) n v

end Sys2Proof.Machine
end

