-- ==== Sys2Proof/Machine/Names.lean ====
section
/-! DEFINITION. The names the rules use: registers, operands, conditions, operation codes, interrupt
sources, flags, draws (spec/10_state.md R34, spec/30_encoding.md R124 to R130, spec/60_exceptions.md). -/

namespace Sys2Proof

/-- The 8-bit register names (R34). -/
inductive Reg8 where
  | a | f | b | c | d | e | h | l
  deriving DecidableEq, Repr

/-- The 16-bit register names (R34); a byte access to one of these cannot be written. -/
inductive Reg16 where
  | af | bc | de | hl | sp | pc
  deriving DecidableEq, Repr

/-- An 8-bit operand of code `r8[k]`: a register, or the byte at address HL (R124, R128). -/
inductive Operand8 where
  | reg (r : Reg8)
  | atHl
  deriving DecidableEq, Repr

/-- The condition codes (R127). -/
inductive Cond where
  | nz | z | nc | c
  deriving DecidableEq, Repr

/-- The two-operand 8-bit operations `alu[y]` (R130). -/
inductive AluOp where
  | add | adc | sub | sbc | and | xor | or | cp
  deriving DecidableEq, Repr

/-- The CB rotate and shift operations `rot[y]` (R130). -/
inductive RotOp where
  | rlc | rrc | rl | rr | sla | sra | swap | srl
  deriving DecidableEq, Repr

/-- The four flags, bits 7 to 4 of F (R39). -/
structure Flags where
  z : Bool
  n : Bool
  h : Bool
  c : Bool
  deriving DecidableEq, Repr

/-- The interrupt sources in priority order (R420). -/
inductive Source where
  | vblank | stat | timer | serial | joypad
  deriving DecidableEq, Repr

/-- The registers the environment may store to (R458). -/
inductive EnvReg where
  | sb | sc | div | tima | tma | tac
  deriving DecidableEq, Repr

/-- One action of the timer and serial collaborators (R458). -/
inductive EnvAction where
  | store (r : EnvReg) (v : Byte)
  | requestTimer
  | requestSerial
  deriving DecidableEq, Repr

/-- The draws `d` of one console tick: `d.input`, `d.env` (R401, R457, R458), and whether the console
is asked to quit at the tick's boundary (R460). The default is the quiet draw. -/
structure Draw where
  input : Option (BitVec 4) := none
  env : List EnvAction := []
  quit : Bool := false
  deriving DecidableEq, Repr

end Sys2Proof
end

