-- ==== Sys2Proof/Config.lean ====
section
/-! DEFINITION. What an implementation fixes: the launch parameters of spec/00_scope.md R11 with the
spec's own defaults, and the one free value of the spec, the frame buffer at reset. -/

namespace Sys2Proof

/-- `ROM_WRITE_POLICY` (R86). -/
inductive RomWritePolicy where
  | ignore
  | store
  deriving DecidableEq, Repr

/-- An entry of `COST` that differs from the default table (R131): the opcode byte, or 0xCB00 + the
second byte for a CB row, with its taken and not-taken cost in ticks. -/
structure CostEntry where
  opcode : Nat
  taken : Nat
  notTaken : Nat
  deriving DecidableEq, Repr

/-- The values `FETCH_TICKS` may have: "natural, ≥ 1" (R11). -/
abbrev FetchTicks := {n : Nat // 1 ≤ n}

/-- The launch parameters other than ROM and HI_INIT (R11), each with the spec's default. They stand in
State, so that one step serves every value of them; no step writes them. Log entry 3. -/
structure Params where
  /-- `FETCH_TICKS` (R415, D2). -/
  fetchTicks : FetchTicks := ⟨1, Nat.le_refl 1⟩
  /-- `INT_DISPATCH_TICKS` (R424, D4). -/
  intDispatchTicks : Nat := 0
  /-- `ROM_WRITE_POLICY` (R86, D8). -/
  romWritePolicy : RomWritePolicy := .ignore
  /-- `LYC_IRQ_REQUIRES_ENABLE` (R436, D17). -/
  lycIrqRequiresEnable : Bool := false
  /-- `COST`, as the entries that differ from the default table (R131, D3). -/
  costs : List CostEntry := []
  deriving DecidableEq, Repr

/-- The frame buffer: 144 rows of 160 shades (R65, R68). -/
abbrev Frame := Vector (Vector Shade 160) 144

/-- FREE VALUE: the frame buffer's reset contents are "unspecified (any value)" (R65). Log entry 8. -/
opaque Config.frameInit : Frame

end Sys2Proof
end

