-- ==== Sys2Proof/Machine/State.lean ====
section
/-! DEFINITION. The machine's state, its stops and its reset (spec/10_state.md R31 to R68,
spec/60_exceptions.md R402, R441, spec/70_reset_and_hazards.md R501 to R504). -/

namespace Sys2Proof.Machine

/-- A copy of the six registers: what a fault's diagnostic carries (R441) and what the debugger's
ReadRegisterSnapshot returns (R459). -/
structure RegSnapshot where
  af : Word
  bc : Word
  de : Word
  hl : Word
  sp : Word
  pc : Word
  deriving DecidableEq, Repr

/-- The fault outcome `Fatal(info)` (R441). -/
inductive Fault where
  /-- Raised by a ROM read (fetch, operand, data, pop, DMA source, sprite data) or, under
  `ROM_WRITE_POLICY = store`, a ROM write, at address `a` whose index `idx` the image lacks (R84, R86),
  with the registers as they stand then. Safe: the chip reads some value there. -/
  | romIndexOutOfRange (a : Word) (idx : Nat) (regs : RegSnapshot)
  /-- Raised by the decoder for a byte (or 0xCB00 + second byte) with no row (R338), with SP and PC after
  the fetch. Safe, and unreachable: every byte has a row. -/
  | unrecognizedOpcode (op : Nat) (sp pc : Word)
  /-- Raised by the cartridge load, before reset, for an image whose length is not a positive multiple
  of 0x4000 (R455). Safe: no tick runs. -/
  | malformedCartridge (length : Nat)
  deriving DecidableEq, Repr

/-- The outcomes that end a run without a fault. -/
inductive Refusal where
  /-- An instruction not reached by the model, named as the opcode table names it. Safe. -/
  | notModelled (mnemonic : String)
  /-- Raised by STOP: `Refused(StopNotModelled, PC0)`, `pc0` the address of the 0x10 byte (R333). Safe. -/
  | stopNotModelled (pc0 : Word)
  /-- The console's cooperative exit `Quit` at a tick boundary (R402, R445, R460): no fault; the state is
  that of the last completed tick. Safe. -/
  | quit
  deriving DecidableEq, Repr

/-- The whole state (R68), with the launch parameters of R11, the draws of the coming ticks, and the
outputs of a tick. -/
structure State where
  /-- A and F (R31, R32, R33). -/
  af : Word
  bc : Word
  de : Word
  hl : Word
  /-- Stack pointer (R38). -/
  sp : Word
  /-- Address of the next byte to fetch (R36). -/
  pc : Word
  /-- Interrupt master enable (R43, R44). -/
  ime : Bool
  /-- Set by HALT, cleared by the halt-exit test (R45). -/
  halted : Bool
  /-- Remaining stall ticks (R46). -/
  stall : Nat
  /-- ROM banks 0 and 1 at 0x0000-0x7FFF (R82) and `hi` at 0x8000-0xFFFF (R83), every memory-mapped
  register among it (R49), as the cells that differ from 0x00, addresses strictly rising. -/
  mem : List Host.Cell
  /-- `ROM_BANKS = length(ROM) / 0x4000` (R82). -/
  romBanks : Nat
  /-- DMA in flight (R62). -/
  dmaActive : Bool
  /-- The DMA cursor (R62). -/
  dmaCursor : Word
  /-- The PPU's dot counter, 0 to 455 (R63). -/
  dot : Nat
  /-- The scanline's sprite candidates (R63). -/
  sprites : List (Fin 40)
  /-- Whether the height sampled by the last OAM search is 16 (R437, R440). Log entry 9. -/
  spriteTall : Bool
  /-- The window-line counter (R63). -/
  windowLine : Byte
  /-- The frame counter (R63). -/
  frames : Nat
  /-- The frame buffer (R65). -/
  frame : Frame
  /-- Output of the last CPU tick: whether it dispatched an instruction (R48). -/
  executed : Bool
  /-- Output of the last PPU tick: frame complete (R65). -/
  frameReady : Bool
  /-- The IllegalOpcodeLogged events, newest first (R337). -/
  log : List (Byte × Word)
  /-- The frames presented to the display, newest first (R405, R456). -/
  presented : List Frame
  /-- The launch parameters (R11). -/
  params : Params
  /-- The draws of the coming ticks, the next tick's first; a tick with none left draws the quiet
  draw (R401, R405). Log entry 4. -/
  draws : List Draw
  deriving DecidableEq, Repr

/-- The three outcomes of an operation that ends in a state. -/
abbrev Result := Host.Outcome State Fault Refusal

/-- The machine right after reset (R501 to R504), under the default parameters; the ROM, which has no
default, is two banks of 0x00 (log entry 5). -/
def State.reset : State where
  af := 0x01B0
  bc := 0x0013
  de := 0x00D8
  hl := 0x014D
  sp := 0xFFFE
  pc := 0x0100
  ime := false
  halted := false
  stall := 0
  mem := []
  romBanks := 2
  dmaActive := false
  dmaCursor := 0x0000
  dot := 0
  sprites := []
  spriteTall := false
  windowLine := 0
  frames := 0
  frame := Config.frameInit
  executed := false
  frameReady := false
  log := []
  presented := []
  params := {}
  draws := []

/-- Continue with the state an operation ends in; a stop ends it at once. -/
def andThen (o : Result) (k : State → Result) : Result :=
  match o with
  | .next s => k s
  | .fault f => .fault f
  | .refused r => .refused r

end Sys2Proof.Machine
end

