-- ==== Sys2Proof/Machine/Ops.lean ====
section
/-! DEFINITION. The named operations over registers and memory: the register file (spec/10_state.md
R31 to R34), the address space (spec/20_memory.md R84 to R90), the stack and subroutine primitives
(spec/40_load.md R230, R231, spec/44_control.md R322, R323) and taking an interrupt
(spec/60_exceptions.md R422). -/

namespace Sys2Proof.Machine

/-- The six registers as a copy (R441, R459). -/
def State.snapshot (s : State) : RegSnapshot :=
  ⟨s.af &&& 0xFFF0, s.bc, s.de, s.hl, s.sp, s.pc⟩

/-- `read_word(name)`; a read of AF has bits 3 to 0 clear (R33, R34). -/
def State.reg16 (s : State) (r : Reg16) : Word :=
  match r with
  | .af => s.af &&& 0xFFF0
  | .bc => s.bc
  | .de => s.de
  | .hl => s.hl
  | .sp => s.sp
  | .pc => s.pc

/-- `write_word(name, w)`; a write of AF stores `w & 0xFFF0` (R33, R34). -/
def State.setReg16 (s : State) (r : Reg16) (w : Word) : State :=
  match r with
  | .af => { s with af := w &&& 0xFFF0 }
  | .bc => { s with bc := w }
  | .de => { s with de := w }
  | .hl => { s with hl := w }
  | .sp => { s with sp := w }
  | .pc => { s with pc := w }

/-- `read_byte(name)`: the high or low byte of the pair (R32). -/
def State.reg8 (s : State) (r : Reg8) : Byte :=
  match r with
  | .a => hiByte (s.reg16 .af)
  | .f => loByte (s.reg16 .af)
  | .b => hiByte s.bc
  | .c => loByte s.bc
  | .d => hiByte s.de
  | .e => loByte s.de
  | .h => hiByte s.hl
  | .l => loByte s.hl

/-- `write_byte(name, v)`: writing a sub-register changes its half of the pair (R32). -/
def State.setReg8 (s : State) (r : Reg8) (v : Byte) : State :=
  match r with
  | .a => s.setReg16 .af (joinBytes v (s.reg8 .f))
  | .f => s.setReg16 .af (joinBytes (s.reg8 .a) v)
  | .b => s.setReg16 .bc (joinBytes v (s.reg8 .c))
  | .c => s.setReg16 .bc (joinBytes (s.reg8 .b) v)
  | .d => s.setReg16 .de (joinBytes v (s.reg8 .e))
  | .e => s.setReg16 .de (joinBytes (s.reg8 .d) v)
  | .h => s.setReg16 .hl (joinBytes v (s.reg8 .l))
  | .l => s.setReg16 .hl (joinBytes (s.reg8 .h) v)

/-- The stored byte of cell `n`, with no mirror and no check: how the units reach `hi` (R83). -/
def State.peek (s : State) (n : Nat) : Byte := Memory.get s.mem n

/-- Store a byte in cell `n` directly, with no side effect (R91, R431 to R434). -/
def State.poke (s : State) (n : Nat) (v : Byte) : State := { s with mem := Memory.set s.mem n v }

/-- `mirror(a)`: 0xE000-0xFDFF is 0xC000-0xDDFF (R87). -/
def mirror (a : Word) : Word :=
  if 0xE000 ≤ a.toNat ∧ a.toNat ≤ 0xFDFF then a - 0x2000 else a

/-- The index into the ROM image of a ROM address: bank 0, or the current bank, fixed at 1 (R82, R84). -/
def romIndex (a : Word) : Nat :=
  if a.toNat < 0x4000 then a.toNat else 1 * 0x4000 + (a.toNat - 0x4000)

/-- `MemRead(a, 1)` (R84). -/
def memRead (a : Word) (s : State) : Except Fault Byte :=
  if a.toNat < 0x8000 then
    if s.romBanks * 0x4000 ≤ romIndex a then .error (.romIndexOutOfRange a (romIndex a) s.snapshot)
    else .ok (s.peek (romIndex a))
  else .ok (s.peek (mirror a).toNat)

/-- `rom_write(a, v)` (R86). -/
def romWrite (a : Word) (v : Byte) (s : State) : Result :=
  match s.params.romWritePolicy with
  | .ignore => .next s
  | .store =>
    if s.romBanks * 0x4000 ≤ romIndex a then .fault (.romIndexOutOfRange a (romIndex a) s.snapshot)
    else .next (s.poke (romIndex a) v)

/-- `dma_start(v)` (R90). -/
def dmaStart (v : Byte) (s : State) : State :=
  { s with dmaCursor := joinBytes v 0x00, dmaActive := true }

/-- `MemWrite(a, 1, v)` (R85, R89, R90). -/
def memWrite (a : Word) (v : Byte) (s : State) : Result :=
  if a.toNat < 0x8000 then romWrite a v s
  else if a.toNat = 0xFF00 then .next (s.poke 0xFF00 ((v &&& 0xF0) ||| (s.peek 0xFF00 &&& 0x0F)))
  else if a.toNat = 0xFF46 then .next (dmaStart v s)
  else .next (s.poke (mirror a).toNat v)

/-- Read a byte and continue with it; an absent ROM bank ends the tick (R84). -/
def readThen (a : Word) (s : State) (k : Byte → Result) : Result :=
  match memRead a s with
  | .ok v => k v
  | .error f => .fault f

/-- `push16(v)` (R230). -/
def push16 (v : Word) (s : State) : Result :=
  andThen (memWrite (s.sp - 1) (hiByte v) { s with sp := s.sp - 1 }) fun s =>
    memWrite (s.sp - 1) (loByte v) { s with sp := s.sp - 1 }

/-- `pop16()`: the word popped is handed to `k` with the state after both increments (R231). -/
def pop16 (s : State) (k : Word → State → Result) : Result :=
  readThen s.sp s fun lo =>
    readThen (s.sp + 1) { s with sp := s.sp + 1 } fun hi =>
      k (joinBytes hi lo) { s with sp := s.sp + 1 + 1 }

/-- `call_sub(t)` (R322). -/
def callSub (t : Word) (s : State) : Result :=
  andThen (push16 s.pc s) fun s => .next { s with pc := t }

/-- `ret_sub()` (R323). -/
def retSub (s : State) : Result :=
  pop16 s fun w s => .next { s with pc := w }

/-- The bit of a source in IF and IE (R420). -/
def sourceBit (i : Source) : Nat :=
  match i with
  | .vblank => 0
  | .stat => 1
  | .timer => 2
  | .serial => 3
  | .joypad => 4

/-- The fixed vector of a source (R420). -/
def sourceVector (i : Source) : Word := 0x0040 + 8 * BitVec.ofNat 16 (sourceBit i)

/-- IF, the byte at 0xFF0F (R50). -/
def State.ifReg (s : State) : Byte := s.peek 0xFF0F

/-- IE, the byte at 0xFFFF (R51). -/
def State.ieReg (s : State) : Byte := s.peek 0xFFFF

/-- TAKING AN INTERRUPT, `dispatch(i)` (R422): clear the request bit and IME, push PC, jump to the vector. -/
def takeInterrupt (i : Source) (s : State) : Result :=
  callSub (sourceVector i)
    { s.poke 0xFF0F (s.ifReg &&& ~~~(1#8 <<< (sourceBit i))) with ime := false }

/-- THE RETURN FROM IT, `ret_sub(); IME <- 1` (R321, R426). -/
def returnFromInterrupt (s : State) : Result :=
  andThen (retSub s) fun s => .next { s with ime := true }

end Sys2Proof.Machine
end

