-- ==== Sys2Proof/Machine/Flags.lean ====
section
/-! DEFINITION. The flags (spec/10_state.md R39, R40) and every computation that sets them:
spec/41_alu8.md, spec/42_alu16.md, spec/43_rotate_shift_bit.md. -/

namespace Sys2Proof.Machine

/-- The flags Z, N, H, C: bits 7, 6, 5, 4 of F (R39). -/
def State.flags (s : State) : Flags :=
  ⟨(s.reg8 .f).getLsbD 7, (s.reg8 .f).getLsbD 6, (s.reg8 .f).getLsbD 5, (s.reg8 .f).getLsbD 4⟩

/-- F as a byte, bits 3 to 0 zero (R33, R39). -/
def packFlags (g : Flags) : Byte :=
  BitVec.ofBool g.z ++ BitVec.ofBool g.n ++ BitVec.ofBool g.h ++ BitVec.ofBool g.c ++ 0#4

/-- Write the four flags (R39). -/
def State.setFlags (s : State) (g : Flags) : State := s.setReg8 .f (packFlags g)

/-- The carry as a number 0 or 1 (R242). -/
def carryIn (g : Flags) : Nat := if g.c then 1 else 0

/-- ADD and ADC: the sum of `a`, `b` and `c` (R241, R242). -/
def addFlags (a b : Byte) (c : Nat) : Byte × Flags :=
  let s := a.toNat + b.toNat + c
  let r := BitVec.ofNat 8 s
  (r, ⟨r == 0, false, decide (a.toNat % 16 + b.toNat % 16 + c > 0xF), decide (s > 0xFF)⟩)

/-- SUB, SBC and CP: `a - b - c` (R243, R244, R248). -/
def subFlags (a b : Byte) (c : Nat) : Byte × Flags :=
  let r := a - b - BitVec.ofNat 8 c
  (r, ⟨r == 0, true, decide (b.toNat % 16 + c > a.toNat % 16), decide (b.toNat + c > a.toNat)⟩)

/-- AND, XOR, OR: Z from the result, H given, N and C reset (R245, R246, R247). -/
def logicFlags (r : Byte) (h : Bool) : Byte × Flags := (r, ⟨r == 0, false, h, false⟩)

/-- The two-operand 8-bit operations: result and flags; CP's result is not written (R241 to R248). -/
def alu8 (op : AluOp) (a b : Byte) (g : Flags) : Byte × Flags :=
  match op with
  | .add => addFlags a b 0
  | .adc => addFlags a b (carryIn g)
  | .sub => subFlags a b 0
  | .sbc => subFlags a b (carryIn g)
  | .and => logicFlags (a &&& b) true
  | .xor => logicFlags (a ^^^ b) false
  | .or => logicFlags (a ||| b) false
  | .cp => subFlags a b 0

/-- INC of a byte; C is kept (R249). -/
def incFlags (v : Byte) (g : Flags) : Byte × Flags :=
  (v + 1, ⟨v + 1 == 0, false, v &&& 0xF == 0xF, g.c⟩)

/-- DEC of a byte; C is kept (R251). -/
def decFlags (v : Byte) (g : Flags) : Byte × Flags :=
  (v - 1, ⟨v - 1 == 0, true, v &&& 0xF == 0x0, g.c⟩)

/-- DAA: the corrected A and the flags (R253, D33). -/
def daaFlags (a : Byte) (g : Flags) : Byte × Flags :=
  if g.n then
    let corr : Byte := (if g.c then 0x60 else 0x00) ||| (if g.h then 0x06 else 0x00)
    let r := a - corr
    (r, ⟨r == 0, g.n, false, g.c⟩)
  else
    let high := g.c || decide (a.toNat > 0x99)
    let low := g.h || decide ((a &&& 0x0F).toNat > 0x09)
    let corr : Byte := (if high then 0x60 else 0x00) ||| (if low then 0x06 else 0x00)
    let r := a + corr
    (r, ⟨r == 0, g.n, false, high⟩)

/-- ADD HL,rr: Z kept, carries out of bits 11 and 15 (R271). -/
def addHlFlags (a b : Word) (g : Flags) : Word × Flags :=
  (a + b, ⟨g.z, false, decide (a.toNat % 0x1000 + b.toNat % 0x1000 > 0x0FFF),
    decide (a.toNat + b.toNat > 0xFFFF)⟩)

/-- `sp_add_e8(n)`: the SP-relative sum, flags of the low-byte addition (R275). -/
def spAddE8 (sp : Word) (n : Byte) : Word × Flags :=
  (sp + sext16 n, ⟨false, false, decide (sp.toNat % 16 + n.toNat % 16 > 0x0F),
    decide (sp.toNat % 256 + n.toNat > 0xFF)⟩)

/-- The rotates and shifts: the result, and the bit that goes to C (R281 to R293). -/
def rotate (op : RotOp) (v : Byte) (c : Bool) : Byte × Bool :=
  match op with
  | .rlc => ((v <<< 1) ||| (v >>> 7), v.getLsbD 7)
  | .rrc => ((v >>> 1) ||| (v <<< 7), v.getLsbD 0)
  | .rl => ((v <<< 1) ||| (if c then 0x01 else 0x00), v.getLsbD 7)
  | .rr => ((v >>> 1) ||| (if c then 0x80 else 0x00), v.getLsbD 0)
  | .sla => (v <<< 1, v.getLsbD 7)
  | .sra => ((v >>> 1) ||| (v &&& 0x80), v.getLsbD 0)
  | .swap => ((v <<< 4) ||| (v >>> 4), false)
  | .srl => (v >>> 1, v.getLsbD 0)

/-- BIT b: Z from the bit, N reset, H set, C kept (R295). -/
def bitFlags (b : Nat) (v : Byte) (g : Flags) : Flags := ⟨!v.getLsbD b, false, true, g.c⟩

/-- RES b (R296). -/
def resBit (b : Nat) (v : Byte) : Byte := v &&& ~~~(1#8 <<< b)

/-- SET b (R297). -/
def setBit (b : Nat) (v : Byte) : Byte := v ||| (1#8 <<< b)

/-- `cond(cc)` (R127). -/
def condHolds (cc : Cond) (s : State) : Bool :=
  match cc with
  | .nz => !s.flags.z
  | .z => s.flags.z
  | .nc => !s.flags.c
  | .c => s.flags.c

end Sys2Proof.Machine
end

