-- ==== Sys2Proof/Machine/Cost.lean ====
section
/-! DEFINITION. Cycle costs: the default of `COST` is the grids of spec/30_encoding.md R132 and R133 (the `cycles`
and `cycles_not_taken` fields of spec/opcode_table.json), and the cost an executed row feeds the stall counter
(spec/60_exceptions.md R415, R416). -/

namespace Sys2Proof.Machine

/-- Default (taken, not taken) costs of the opcode map (R131, R132). STOP and the bare prefix have no cost. -/
def mainCosts : List (Nat × Nat) :=
  [(4, 4), (12, 12), (8, 8), (8, 8), (4, 4), (4, 4), (8, 8), (4, 4),
   (20, 20), (8, 8), (8, 8), (8, 8), (4, 4), (4, 4), (8, 8), (4, 4)] ++
  [(0, 0), (12, 12), (8, 8), (8, 8), (4, 4), (4, 4), (8, 8), (4, 4),
   (12, 12), (8, 8), (8, 8), (8, 8), (4, 4), (4, 4), (8, 8), (4, 4)] ++
  [(12, 8), (12, 12), (8, 8), (8, 8), (4, 4), (4, 4), (8, 8), (4, 4),
   (12, 8), (8, 8), (8, 8), (8, 8), (4, 4), (4, 4), (8, 8), (4, 4)] ++
  [(12, 8), (12, 12), (8, 8), (8, 8), (12, 12), (12, 12), (12, 12), (4, 4),
   (12, 8), (8, 8), (8, 8), (8, 8), (4, 4), (4, 4), (8, 8), (4, 4)] ++
  [(4, 4), (4, 4), (4, 4), (4, 4), (4, 4), (4, 4), (8, 8), (4, 4),
   (4, 4), (4, 4), (4, 4), (4, 4), (4, 4), (4, 4), (8, 8), (4, 4)] ++
  [(4, 4), (4, 4), (4, 4), (4, 4), (4, 4), (4, 4), (8, 8), (4, 4),
   (4, 4), (4, 4), (4, 4), (4, 4), (4, 4), (4, 4), (8, 8), (4, 4)] ++
  [(4, 4), (4, 4), (4, 4), (4, 4), (4, 4), (4, 4), (8, 8), (4, 4),
   (4, 4), (4, 4), (4, 4), (4, 4), (4, 4), (4, 4), (8, 8), (4, 4)] ++
  [(8, 8), (8, 8), (8, 8), (8, 8), (8, 8), (8, 8), (4, 4), (8, 8),
   (4, 4), (4, 4), (4, 4), (4, 4), (4, 4), (4, 4), (8, 8), (4, 4)] ++
  [(4, 4), (4, 4), (4, 4), (4, 4), (4, 4), (4, 4), (8, 8), (4, 4),
   (4, 4), (4, 4), (4, 4), (4, 4), (4, 4), (4, 4), (8, 8), (4, 4)] ++
  [(4, 4), (4, 4), (4, 4), (4, 4), (4, 4), (4, 4), (8, 8), (4, 4),
   (4, 4), (4, 4), (4, 4), (4, 4), (4, 4), (4, 4), (8, 8), (4, 4)] ++
  [(4, 4), (4, 4), (4, 4), (4, 4), (4, 4), (4, 4), (8, 8), (4, 4),
   (4, 4), (4, 4), (4, 4), (4, 4), (4, 4), (4, 4), (8, 8), (4, 4)] ++
  [(4, 4), (4, 4), (4, 4), (4, 4), (4, 4), (4, 4), (8, 8), (4, 4),
   (4, 4), (4, 4), (4, 4), (4, 4), (4, 4), (4, 4), (8, 8), (4, 4)] ++
  [(20, 8), (12, 12), (16, 12), (16, 16), (24, 12), (16, 16), (8, 8), (16, 16),
   (20, 8), (16, 16), (16, 12), (0, 0), (24, 12), (24, 24), (8, 8), (16, 16)] ++
  [(20, 8), (12, 12), (16, 12), (4, 4), (24, 12), (16, 16), (8, 8), (16, 16),
   (20, 8), (16, 16), (16, 12), (4, 4), (24, 12), (4, 4), (8, 8), (16, 16)] ++
  [(12, 12), (12, 12), (8, 8), (4, 4), (4, 4), (16, 16), (8, 8), (16, 16),
   (16, 16), (4, 4), (16, 16), (4, 4), (4, 4), (4, 4), (8, 8), (16, 16)] ++
  [(12, 12), (12, 12), (8, 8), (4, 4), (4, 4), (16, 16), (8, 8), (16, 16),
   (12, 12), (8, 8), (16, 16), (4, 4), (4, 4), (4, 4), (8, 8), (16, 16)]

/-- Default costs of the CB map, the prefix included (R131, R133). -/
def cbCosts : List (Nat × Nat) :=
  [(8, 8), (8, 8), (8, 8), (8, 8), (8, 8), (8, 8), (16, 16), (8, 8),
   (8, 8), (8, 8), (8, 8), (8, 8), (8, 8), (8, 8), (16, 16), (8, 8)] ++
  [(8, 8), (8, 8), (8, 8), (8, 8), (8, 8), (8, 8), (16, 16), (8, 8),
   (8, 8), (8, 8), (8, 8), (8, 8), (8, 8), (8, 8), (16, 16), (8, 8)] ++
  [(8, 8), (8, 8), (8, 8), (8, 8), (8, 8), (8, 8), (16, 16), (8, 8),
   (8, 8), (8, 8), (8, 8), (8, 8), (8, 8), (8, 8), (16, 16), (8, 8)] ++
  [(8, 8), (8, 8), (8, 8), (8, 8), (8, 8), (8, 8), (16, 16), (8, 8),
   (8, 8), (8, 8), (8, 8), (8, 8), (8, 8), (8, 8), (16, 16), (8, 8)] ++
  [(8, 8), (8, 8), (8, 8), (8, 8), (8, 8), (8, 8), (12, 12), (8, 8),
   (8, 8), (8, 8), (8, 8), (8, 8), (8, 8), (8, 8), (12, 12), (8, 8)] ++
  [(8, 8), (8, 8), (8, 8), (8, 8), (8, 8), (8, 8), (12, 12), (8, 8),
   (8, 8), (8, 8), (8, 8), (8, 8), (8, 8), (8, 8), (12, 12), (8, 8)] ++
  [(8, 8), (8, 8), (8, 8), (8, 8), (8, 8), (8, 8), (12, 12), (8, 8),
   (8, 8), (8, 8), (8, 8), (8, 8), (8, 8), (8, 8), (12, 12), (8, 8)] ++
  [(8, 8), (8, 8), (8, 8), (8, 8), (8, 8), (8, 8), (12, 12), (8, 8),
   (8, 8), (8, 8), (8, 8), (8, 8), (8, 8), (8, 8), (12, 12), (8, 8)] ++
  [(8, 8), (8, 8), (8, 8), (8, 8), (8, 8), (8, 8), (16, 16), (8, 8),
   (8, 8), (8, 8), (8, 8), (8, 8), (8, 8), (8, 8), (16, 16), (8, 8)] ++
  [(8, 8), (8, 8), (8, 8), (8, 8), (8, 8), (8, 8), (16, 16), (8, 8),
   (8, 8), (8, 8), (8, 8), (8, 8), (8, 8), (8, 8), (16, 16), (8, 8)] ++
  [(8, 8), (8, 8), (8, 8), (8, 8), (8, 8), (8, 8), (16, 16), (8, 8),
   (8, 8), (8, 8), (8, 8), (8, 8), (8, 8), (8, 8), (16, 16), (8, 8)] ++
  [(8, 8), (8, 8), (8, 8), (8, 8), (8, 8), (8, 8), (16, 16), (8, 8),
   (8, 8), (8, 8), (8, 8), (8, 8), (8, 8), (8, 8), (16, 16), (8, 8)] ++
  [(8, 8), (8, 8), (8, 8), (8, 8), (8, 8), (8, 8), (16, 16), (8, 8),
   (8, 8), (8, 8), (8, 8), (8, 8), (8, 8), (8, 8), (16, 16), (8, 8)] ++
  [(8, 8), (8, 8), (8, 8), (8, 8), (8, 8), (8, 8), (16, 16), (8, 8),
   (8, 8), (8, 8), (8, 8), (8, 8), (8, 8), (8, 8), (16, 16), (8, 8)] ++
  [(8, 8), (8, 8), (8, 8), (8, 8), (8, 8), (8, 8), (16, 16), (8, 8),
   (8, 8), (8, 8), (8, 8), (8, 8), (8, 8), (8, 8), (16, 16), (8, 8)] ++
  [(8, 8), (8, 8), (8, 8), (8, 8), (8, 8), (8, 8), (16, 16), (8, 8),
   (8, 8), (8, 8), (8, 8), (8, 8), (8, 8), (8, 8), (16, 16), (8, 8)]

/-- The default cost of an opcode key (R131). -/
def defaultCost (key : Nat) : Nat × Nat :=
  if key < 0x100 then mainCosts.getD key (0, 0) else cbCosts.getD (key - 0xCB00) (0, 0)

/-- The entry of `COST` for an opcode key, if the launch gave one (R131). -/
def findCost (costs : List CostEntry) (key : Nat) : Option (Nat × Nat) :=
  match costs with
  | [] => none
  | e :: r => if e.opcode = key then some (e.taken, e.notTaken) else findCost r key

/-- `COST` (R131). -/
def costOf (p : Params) (i : Instr) : Nat × Nat :=
  match findCost p.costs (opcodeKey (encode i)) with
  | some c => c
  | none => defaultCost (opcodeKey (encode i))

/-- The condition of a conditional row (R127, R416). -/
def conditionOf (i : Instr) : Option Cond :=
  match i with
  | .jrNzE8 _ => some .nz
  | .jrZE8 _ => some .z
  | .jrNcE8 _ => some .nc
  | .jrCE8 _ => some .c
  | .retNz => some .nz
  | .jpNzA16 _ => some .nz
  | .callNzA16 _ => some .nz
  | .retZ => some .z
  | .jpZA16 _ => some .z
  | .callZA16 _ => some .z
  | .retNc => some .nc
  | .jpNcA16 _ => some .nc
  | .callNcA16 _ => some .nc
  | .retC => some .c
  | .jpCA16 _ => some .c
  | .callCA16 _ => some .c
  | _ => none

/-- Whether the row is taken: true unless a condition failed (R412, R416). No row changes the flags before
its test, so the state before the row decides. -/
def taken (i : Instr) (s : State) : Bool :=
  match conditionOf i with
  | none => true
  | some cc => condHolds cc s

/-- `cost(row, taken)` (R412). -/
def costTaken (p : Params) (i : Instr) (t : Bool) : Nat :=
  if t then (costOf p i).1 else (costOf p i).2

end Sys2Proof.Machine
end

