-- ==== Sys2Proof/Machine/Operands.lean ====
section
/-! DEFINITION. Operand forms: the operand codes of spec/30_encoding.md R124 to R127 and R130, and the
uniform reads and writes through them (R128). -/

namespace Sys2Proof.Machine

/-- The 8-bit operand of code `r8[k]` (R124). -/
def r8Code (k : BitVec 3) : Operand8 :=
  match k with
  | 0 => .reg .b
  | 1 => .reg .c
  | 2 => .reg .d
  | 3 => .reg .e
  | 4 => .reg .h
  | 5 => .reg .l
  | 6 => .atHl
  | 7 => .reg .a

/-- The rotate or shift of code `rot[y]` (R130). -/
def rotCode (y : BitVec 3) : RotOp :=
  match y with
  | 0 => .rlc
  | 1 => .rrc
  | 2 => .rl
  | 3 => .rr
  | 4 => .sla
  | 5 => .sra
  | 6 => .swap
  | 7 => .srl

/-- `read8(k)` (R128): the operand's byte is handed on; only (HL) can raise the data read fault. -/
def read8 (o : Operand8) (s : State) : Except Fault Byte :=
  match o with
  | .reg r => .ok (s.reg8 r)
  | .atHl => memRead s.hl s

/-- `write8(k, v)` (R128). -/
def write8 (o : Operand8) (v : Byte) (s : State) : Result :=
  match o with
  | .reg r => .next (s.setReg8 r v)
  | .atHl => memWrite s.hl v s

/-- Read an operand once and continue with its byte (R128). -/
def readOperandThen (o : Operand8) (s : State) (k : Byte → Result) : Result :=
  match read8 o s with
  | .ok v => k v
  | .error f => .fault f

/-- Load an 8-bit register from memory (R202, R206 to R218). -/
def loadFrom (r : Reg8) (a : Word) (s : State) : Result :=
  readThen a s fun v => .next (s.setReg8 r v)

/-- A two-operand 8-bit operation on A and `b`; CP writes the flags only (R241 to R248). -/
def aluOn (op : AluOp) (b : Byte) (s : State) : State :=
  let out := alu8 op (s.reg8 .a) b s.flags
  if op = .cp then s.setFlags out.2 else (s.setReg8 .a out.1).setFlags out.2

/-- The register and (HL) forms of a two-operand 8-bit operation (the form table of 41_alu8.md). -/
def aluOperand (op : AluOp) (o : Operand8) (s : State) : Result :=
  readOperandThen o s fun b => .next (aluOn op b s)

/-- INC or DEC of an operand: one read, one write, then the flags (R249 to R252). -/
def stepOperand (f : Byte → Flags → Byte × Flags) (o : Operand8) (s : State) : Result :=
  readOperandThen o s fun v =>
    andThen (write8 o (f v s.flags).1 s) fun t => .next (t.setFlags (f v s.flags).2)

/-- An accumulator rotate: Z always reset (R281 to R284). -/
def rotateA (op : RotOp) (s : State) : State :=
  let out := rotate op (s.reg8 .a) s.flags.c
  (s.setReg8 .a out.1).setFlags ⟨false, false, false, out.2⟩

/-- A CB rotate or shift: Z from the result (R285 to R293). -/
def rotateOperand (op : RotOp) (o : Operand8) (s : State) : Result :=
  readOperandThen o s fun v =>
    let out := rotate op v s.flags.c
    andThen (write8 o out.1 s) fun t => .next (t.setFlags ⟨out.1 == 0, false, false, out.2⟩)

/-- BIT b: nothing is written back (R295). -/
def bitOperand (b : Nat) (o : Operand8) (s : State) : Result :=
  readOperandThen o s fun v => .next (s.setFlags (bitFlags b v s.flags))

/-- RES and SET: one read, one write, no flags (R296, R297). -/
def mapOperand (f : Byte → Byte) (o : Operand8) (s : State) : Result :=
  readOperandThen o s fun v => write8 o (f v) s

/-- `X <- sp_add_e8(n)`, which also writes the flags (R226, R274, R275). -/
def spRelative (dst : Reg16) (n : Byte) (s : State) : Result :=
  .next ((s.setReg16 dst (spAddE8 s.sp n).1).setFlags (spAddE8 s.sp n).2)

end Sys2Proof.Machine
end

