-- ==== Sys2Proof/Machine/Alu16.lean ====
section
/-! DEFINITION. 16-bit arithmetic (spec/42_alu16.md R271 to R274). -/

namespace Sys2Proof.Machine

/-- `HL <- HL + rp[p]` with its flags (R271). -/
def addHl (src : Reg16) (s : State) : Result :=
  .next ((s.setReg16 .hl (addHlFlags s.hl (s.reg16 src) s.flags).1).setFlags
    (addHlFlags s.hl (s.reg16 src) s.flags).2)

/-- `INC BC`, 0x03 (R272). -/
@[simp] def execIncBc (s : State) : Result :=
  .next (s.setReg16 .bc (s.reg16 .bc + 1))

/-- `ADD HL,BC`, 0x09 (R271). -/
@[simp] def execAddHlBc (s : State) : Result :=
  addHl .bc s

/-- `DEC BC`, 0x0B (R273). -/
@[simp] def execDecBc (s : State) : Result :=
  .next (s.setReg16 .bc (s.reg16 .bc - 1))

/-- `INC DE`, 0x13 (R272). -/
@[simp] def execIncDe (s : State) : Result :=
  .next (s.setReg16 .de (s.reg16 .de + 1))

/-- `ADD HL,DE`, 0x19 (R271). -/
@[simp] def execAddHlDe (s : State) : Result :=
  addHl .de s

/-- `DEC DE`, 0x1B (R273). -/
@[simp] def execDecDe (s : State) : Result :=
  .next (s.setReg16 .de (s.reg16 .de - 1))

/-- `INC HL`, 0x23 (R272). -/
@[simp] def execIncHl (s : State) : Result :=
  .next (s.setReg16 .hl (s.reg16 .hl + 1))

/-- `ADD HL,HL`, 0x29 (R271). -/
@[simp] def execAddHlHl (s : State) : Result :=
  addHl .hl s

/-- `DEC HL`, 0x2B (R273). -/
@[simp] def execDecHl (s : State) : Result :=
  .next (s.setReg16 .hl (s.reg16 .hl - 1))

/-- `INC SP`, 0x33 (R272). -/
@[simp] def execIncSp (s : State) : Result :=
  .next (s.setReg16 .sp (s.reg16 .sp + 1))

/-- `ADD HL,SP`, 0x39 (R271). -/
@[simp] def execAddHlSp (s : State) : Result :=
  addHl .sp s

/-- `DEC SP`, 0x3B (R273). -/
@[simp] def execDecSp (s : State) : Result :=
  .next (s.setReg16 .sp (s.reg16 .sp - 1))

/-- `ADD SP,e8`, 0xE8 (R274). -/
@[simp] def execAddSpE8 (n : Byte) (s : State) : Result :=
  spRelative .sp n s

end Sys2Proof.Machine
end

