-- ==== Sys2Proof/Machine/Alu8.lean ====
section
/-! DEFINITION. 8-bit arithmetic and logic (spec/41_alu8.md R241 to R256). -/

namespace Sys2Proof.Machine

/-- `INC B`, 0x04 (R249). -/
@[simp] def execIncB (s : State) : Result :=
  stepOperand incFlags (.reg .b) s

/-- `DEC B`, 0x05 (R251). -/
@[simp] def execDecB (s : State) : Result :=
  stepOperand decFlags (.reg .b) s

/-- `INC C`, 0x0C (R249). -/
@[simp] def execIncC (s : State) : Result :=
  stepOperand incFlags (.reg .c) s

/-- `DEC C`, 0x0D (R251). -/
@[simp] def execDecC (s : State) : Result :=
  stepOperand decFlags (.reg .c) s

/-- `INC D`, 0x14 (R249). -/
@[simp] def execIncD (s : State) : Result :=
  stepOperand incFlags (.reg .d) s

/-- `DEC D`, 0x15 (R251). -/
@[simp] def execDecD (s : State) : Result :=
  stepOperand decFlags (.reg .d) s

/-- `INC E`, 0x1C (R249). -/
@[simp] def execIncE (s : State) : Result :=
  stepOperand incFlags (.reg .e) s

/-- `DEC E`, 0x1D (R251). -/
@[simp] def execDecE (s : State) : Result :=
  stepOperand decFlags (.reg .e) s

/-- `INC H`, 0x24 (R249). -/
@[simp] def execIncH (s : State) : Result :=
  stepOperand incFlags (.reg .h) s

/-- `DEC H`, 0x25 (R251). -/
@[simp] def execDecH (s : State) : Result :=
  stepOperand decFlags (.reg .h) s

/-- `DAA`, 0x27 (R253). -/
@[simp] def execDaa (s : State) : Result :=
  .next ((s.setReg8 .a (daaFlags (s.reg8 .a) s.flags).1).setFlags (daaFlags (s.reg8 .a) s.flags).2)

/-- `INC L`, 0x2C (R249). -/
@[simp] def execIncL (s : State) : Result :=
  stepOperand incFlags (.reg .l) s

/-- `DEC L`, 0x2D (R251). -/
@[simp] def execDecL (s : State) : Result :=
  stepOperand decFlags (.reg .l) s

/-- `CPL`, 0x2F (R254). -/
@[simp] def execCpl (s : State) : Result :=
  .next ((s.setReg8 .a (~~~(s.reg8 .a))).setFlags ⟨s.flags.z, true, true, s.flags.c⟩)

/-- `INC (HL)`, 0x34 (R250). -/
@[simp] def execIncAtHl (s : State) : Result :=
  stepOperand incFlags .atHl s

/-- `DEC (HL)`, 0x35 (R252). -/
@[simp] def execDecAtHl (s : State) : Result :=
  stepOperand decFlags .atHl s

/-- `SCF`, 0x37 (R255). -/
@[simp] def execScf (s : State) : Result :=
  .next (s.setFlags ⟨s.flags.z, false, false, true⟩)

/-- `INC A`, 0x3C (R249). -/
@[simp] def execIncA (s : State) : Result :=
  stepOperand incFlags (.reg .a) s

/-- `DEC A`, 0x3D (R251). -/
@[simp] def execDecA (s : State) : Result :=
  stepOperand decFlags (.reg .a) s

/-- `CCF`, 0x3F (R256). -/
@[simp] def execCcf (s : State) : Result :=
  .next (s.setFlags ⟨s.flags.z, false, false, !s.flags.c⟩)

/-- `ADD A,B`, 0x80 (R241). -/
@[simp] def execAddAB (s : State) : Result :=
  aluOperand .add (.reg .b) s

/-- `ADD A,C`, 0x81 (R241). -/
@[simp] def execAddAC (s : State) : Result :=
  aluOperand .add (.reg .c) s

/-- `ADD A,D`, 0x82 (R241). -/
@[simp] def execAddAD (s : State) : Result :=
  aluOperand .add (.reg .d) s

/-- `ADD A,E`, 0x83 (R241). -/
@[simp] def execAddAE (s : State) : Result :=
  aluOperand .add (.reg .e) s

/-- `ADD A,H`, 0x84 (R241). -/
@[simp] def execAddAH (s : State) : Result :=
  aluOperand .add (.reg .h) s

/-- `ADD A,L`, 0x85 (R241). -/
@[simp] def execAddAL (s : State) : Result :=
  aluOperand .add (.reg .l) s

/-- `ADD A,(HL)`, 0x86 (R241). -/
@[simp] def execAddAAtHl (s : State) : Result :=
  aluOperand .add .atHl s

/-- `ADD A,A`, 0x87 (R241). -/
@[simp] def execAddAA (s : State) : Result :=
  aluOperand .add (.reg .a) s

/-- `ADC A,B`, 0x88 (R242). -/
@[simp] def execAdcAB (s : State) : Result :=
  aluOperand .adc (.reg .b) s

/-- `ADC A,C`, 0x89 (R242). -/
@[simp] def execAdcAC (s : State) : Result :=
  aluOperand .adc (.reg .c) s

/-- `ADC A,D`, 0x8A (R242). -/
@[simp] def execAdcAD (s : State) : Result :=
  aluOperand .adc (.reg .d) s

/-- `ADC A,E`, 0x8B (R242). -/
@[simp] def execAdcAE (s : State) : Result :=
  aluOperand .adc (.reg .e) s

/-- `ADC A,H`, 0x8C (R242). -/
@[simp] def execAdcAH (s : State) : Result :=
  aluOperand .adc (.reg .h) s

/-- `ADC A,L`, 0x8D (R242). -/
@[simp] def execAdcAL (s : State) : Result :=
  aluOperand .adc (.reg .l) s

/-- `ADC A,(HL)`, 0x8E (R242). -/
@[simp] def execAdcAAtHl (s : State) : Result :=
  aluOperand .adc .atHl s

/-- `ADC A,A`, 0x8F (R242). -/
@[simp] def execAdcAA (s : State) : Result :=
  aluOperand .adc (.reg .a) s

/-- `SUB B`, 0x90 (R243). -/
@[simp] def execSubB (s : State) : Result :=
  aluOperand .sub (.reg .b) s

/-- `SUB C`, 0x91 (R243). -/
@[simp] def execSubC (s : State) : Result :=
  aluOperand .sub (.reg .c) s

/-- `SUB D`, 0x92 (R243). -/
@[simp] def execSubD (s : State) : Result :=
  aluOperand .sub (.reg .d) s

/-- `SUB E`, 0x93 (R243). -/
@[simp] def execSubE (s : State) : Result :=
  aluOperand .sub (.reg .e) s

/-- `SUB H`, 0x94 (R243). -/
@[simp] def execSubH (s : State) : Result :=
  aluOperand .sub (.reg .h) s

/-- `SUB L`, 0x95 (R243). -/
@[simp] def execSubL (s : State) : Result :=
  aluOperand .sub (.reg .l) s

/-- `SUB (HL)`, 0x96 (R243). -/
@[simp] def execSubAtHl (s : State) : Result :=
  aluOperand .sub .atHl s

/-- `SUB A`, 0x97 (R243). -/
@[simp] def execSubA (s : State) : Result :=
  aluOperand .sub (.reg .a) s

/-- `SBC A,B`, 0x98 (R244). -/
@[simp] def execSbcAB (s : State) : Result :=
  aluOperand .sbc (.reg .b) s

/-- `SBC A,C`, 0x99 (R244). -/
@[simp] def execSbcAC (s : State) : Result :=
  aluOperand .sbc (.reg .c) s

/-- `SBC A,D`, 0x9A (R244). -/
@[simp] def execSbcAD (s : State) : Result :=
  aluOperand .sbc (.reg .d) s

/-- `SBC A,E`, 0x9B (R244). -/
@[simp] def execSbcAE (s : State) : Result :=
  aluOperand .sbc (.reg .e) s

/-- `SBC A,H`, 0x9C (R244). -/
@[simp] def execSbcAH (s : State) : Result :=
  aluOperand .sbc (.reg .h) s

/-- `SBC A,L`, 0x9D (R244). -/
@[simp] def execSbcAL (s : State) : Result :=
  aluOperand .sbc (.reg .l) s

/-- `SBC A,(HL)`, 0x9E (R244). -/
@[simp] def execSbcAAtHl (s : State) : Result :=
  aluOperand .sbc .atHl s

/-- `SBC A,A`, 0x9F (R244). -/
@[simp] def execSbcAA (s : State) : Result :=
  aluOperand .sbc (.reg .a) s

/-- `AND B`, 0xA0 (R245). -/
@[simp] def execAndB (s : State) : Result :=
  aluOperand .and (.reg .b) s

/-- `AND C`, 0xA1 (R245). -/
@[simp] def execAndC (s : State) : Result :=
  aluOperand .and (.reg .c) s

/-- `AND D`, 0xA2 (R245). -/
@[simp] def execAndD (s : State) : Result :=
  aluOperand .and (.reg .d) s

/-- `AND E`, 0xA3 (R245). -/
@[simp] def execAndE (s : State) : Result :=
  aluOperand .and (.reg .e) s

/-- `AND H`, 0xA4 (R245). -/
@[simp] def execAndH (s : State) : Result :=
  aluOperand .and (.reg .h) s

/-- `AND L`, 0xA5 (R245). -/
@[simp] def execAndL (s : State) : Result :=
  aluOperand .and (.reg .l) s

/-- `AND (HL)`, 0xA6 (R245). -/
@[simp] def execAndAtHl (s : State) : Result :=
  aluOperand .and .atHl s

/-- `AND A`, 0xA7 (R245). -/
@[simp] def execAndA (s : State) : Result :=
  aluOperand .and (.reg .a) s

/-- `XOR B`, 0xA8 (R246). -/
@[simp] def execXorB (s : State) : Result :=
  aluOperand .xor (.reg .b) s

/-- `XOR C`, 0xA9 (R246). -/
@[simp] def execXorC (s : State) : Result :=
  aluOperand .xor (.reg .c) s

/-- `XOR D`, 0xAA (R246). -/
@[simp] def execXorD (s : State) : Result :=
  aluOperand .xor (.reg .d) s

/-- `XOR E`, 0xAB (R246). -/
@[simp] def execXorE (s : State) : Result :=
  aluOperand .xor (.reg .e) s

/-- `XOR H`, 0xAC (R246). -/
@[simp] def execXorH (s : State) : Result :=
  aluOperand .xor (.reg .h) s

/-- `XOR L`, 0xAD (R246). -/
@[simp] def execXorL (s : State) : Result :=
  aluOperand .xor (.reg .l) s

/-- `XOR (HL)`, 0xAE (R246). -/
@[simp] def execXorAtHl (s : State) : Result :=
  aluOperand .xor .atHl s

/-- `XOR A`, 0xAF (R246). -/
@[simp] def execXorA (s : State) : Result :=
  aluOperand .xor (.reg .a) s

/-- `OR B`, 0xB0 (R247). -/
@[simp] def execOrB (s : State) : Result :=
  aluOperand .or (.reg .b) s

/-- `OR C`, 0xB1 (R247). -/
@[simp] def execOrC (s : State) : Result :=
  aluOperand .or (.reg .c) s

/-- `OR D`, 0xB2 (R247). -/
@[simp] def execOrD (s : State) : Result :=
  aluOperand .or (.reg .d) s

/-- `OR E`, 0xB3 (R247). -/
@[simp] def execOrE (s : State) : Result :=
  aluOperand .or (.reg .e) s

/-- `OR H`, 0xB4 (R247). -/
@[simp] def execOrH (s : State) : Result :=
  aluOperand .or (.reg .h) s

/-- `OR L`, 0xB5 (R247). -/
@[simp] def execOrL (s : State) : Result :=
  aluOperand .or (.reg .l) s

/-- `OR (HL)`, 0xB6 (R247). -/
@[simp] def execOrAtHl (s : State) : Result :=
  aluOperand .or .atHl s

/-- `OR A`, 0xB7 (R247). -/
@[simp] def execOrA (s : State) : Result :=
  aluOperand .or (.reg .a) s

/-- `CP B`, 0xB8 (R248). -/
@[simp] def execCpB (s : State) : Result :=
  aluOperand .cp (.reg .b) s

/-- `CP C`, 0xB9 (R248). -/
@[simp] def execCpC (s : State) : Result :=
  aluOperand .cp (.reg .c) s

/-- `CP D`, 0xBA (R248). -/
@[simp] def execCpD (s : State) : Result :=
  aluOperand .cp (.reg .d) s

/-- `CP E`, 0xBB (R248). -/
@[simp] def execCpE (s : State) : Result :=
  aluOperand .cp (.reg .e) s

/-- `CP H`, 0xBC (R248). -/
@[simp] def execCpH (s : State) : Result :=
  aluOperand .cp (.reg .h) s

/-- `CP L`, 0xBD (R248). -/
@[simp] def execCpL (s : State) : Result :=
  aluOperand .cp (.reg .l) s

/-- `CP (HL)`, 0xBE (R248). -/
@[simp] def execCpAtHl (s : State) : Result :=
  aluOperand .cp .atHl s

/-- `CP A`, 0xBF (R248). -/
@[simp] def execCpA (s : State) : Result :=
  aluOperand .cp (.reg .a) s

/-- `ADD A,d8`, 0xC6 (R241). -/
@[simp] def execAddAD8 (n : Byte) (s : State) : Result :=
  .next (aluOn .add n s)

/-- `ADC A,d8`, 0xCE (R242). -/
@[simp] def execAdcAD8 (n : Byte) (s : State) : Result :=
  .next (aluOn .adc n s)

/-- `SUB d8`, 0xD6 (R243). -/
@[simp] def execSubD8 (n : Byte) (s : State) : Result :=
  .next (aluOn .sub n s)

/-- `SBC A,d8`, 0xDE (R244). -/
@[simp] def execSbcAD8 (n : Byte) (s : State) : Result :=
  .next (aluOn .sbc n s)

/-- `AND d8`, 0xE6 (R245). -/
@[simp] def execAndD8 (n : Byte) (s : State) : Result :=
  .next (aluOn .and n s)

/-- `XOR d8`, 0xEE (R246). -/
@[simp] def execXorD8 (n : Byte) (s : State) : Result :=
  .next (aluOn .xor n s)

/-- `OR d8`, 0xF6 (R247). -/
@[simp] def execOrD8 (n : Byte) (s : State) : Result :=
  .next (aluOn .or n s)

/-- `CP d8`, 0xFE (R248). -/
@[simp] def execCpD8 (n : Byte) (s : State) : Result :=
  .next (aluOn .cp n s)

end Sys2Proof.Machine
end

