-- ==== Sys2Proof/Machine/Control.lean ====
section
/-! DEFINITION. Control transfer (spec/44_control.md R311 to R321). PC is past the whole instruction (R324). -/

namespace Sys2Proof.Machine

/-- `if cond(cc) then PC <- t` (R312, R315). -/
def jumpIf (cc : Cond) (t : Word) (s : State) : Result :=
  .next (if condHolds cc s then { s with pc := t } else s)

/-- `if cond(cc) then call_sub(t)` (R317). -/
def callIf (cc : Cond) (t : Word) (s : State) : Result :=
  if condHolds cc s then callSub t s else .next s

/-- `if cond(cc) then ret_sub()` (R319). -/
def retIf (cc : Cond) (s : State) : Result :=
  if condHolds cc s then retSub s else .next s

/-- `JR e8`, 0x18 (R314). -/
@[simp] def execJrE8 (n : Byte) (s : State) : Result :=
  .next { s with pc := s.pc + sext16 n }

/-- `JR NZ,e8`, 0x20 (R315). -/
@[simp] def execJrNzE8 (n : Byte) (s : State) : Result :=
  jumpIf .nz (s.pc + sext16 n) s

/-- `JR Z,e8`, 0x28 (R315). -/
@[simp] def execJrZE8 (n : Byte) (s : State) : Result :=
  jumpIf .z (s.pc + sext16 n) s

/-- `JR NC,e8`, 0x30 (R315). -/
@[simp] def execJrNcE8 (n : Byte) (s : State) : Result :=
  jumpIf .nc (s.pc + sext16 n) s

/-- `JR C,e8`, 0x38 (R315). -/
@[simp] def execJrCE8 (n : Byte) (s : State) : Result :=
  jumpIf .c (s.pc + sext16 n) s

/-- `RET NZ`, 0xC0 (R319). -/
@[simp] def execRetNz (s : State) : Result :=
  retIf .nz s

/-- `JP NZ,a16`, 0xC2 (R312). -/
@[simp] def execJpNzA16 (a : Word) (s : State) : Result :=
  jumpIf .nz a s

/-- `JP a16`, 0xC3 (R311). -/
@[simp] def execJpA16 (a : Word) (s : State) : Result :=
  .next { s with pc := a }

/-- `CALL NZ,a16`, 0xC4 (R317). -/
@[simp] def execCallNzA16 (a : Word) (s : State) : Result :=
  callIf .nz a s

/-- `RST 00h`, 0xC7 (R320). -/
@[simp] def execRst00 (s : State) : Result :=
  callSub 0x00 s

/-- `RET Z`, 0xC8 (R319). -/
@[simp] def execRetZ (s : State) : Result :=
  retIf .z s

/-- `RET`, 0xC9 (R318). -/
@[simp] def execRet (s : State) : Result :=
  retSub s

/-- `JP Z,a16`, 0xCA (R312). -/
@[simp] def execJpZA16 (a : Word) (s : State) : Result :=
  jumpIf .z a s

/-- `CALL Z,a16`, 0xCC (R317). -/
@[simp] def execCallZA16 (a : Word) (s : State) : Result :=
  callIf .z a s

/-- `CALL a16`, 0xCD (R316). -/
@[simp] def execCallA16 (a : Word) (s : State) : Result :=
  callSub a s

/-- `RST 08h`, 0xCF (R320). -/
@[simp] def execRst08 (s : State) : Result :=
  callSub 0x08 s

/-- `RET NC`, 0xD0 (R319). -/
@[simp] def execRetNc (s : State) : Result :=
  retIf .nc s

/-- `JP NC,a16`, 0xD2 (R312). -/
@[simp] def execJpNcA16 (a : Word) (s : State) : Result :=
  jumpIf .nc a s

/-- `CALL NC,a16`, 0xD4 (R317). -/
@[simp] def execCallNcA16 (a : Word) (s : State) : Result :=
  callIf .nc a s

/-- `RST 10h`, 0xD7 (R320). -/
@[simp] def execRst10 (s : State) : Result :=
  callSub 0x10 s

/-- `RET C`, 0xD8 (R319). -/
@[simp] def execRetC (s : State) : Result :=
  retIf .c s

/-- `RETI`, 0xD9 (R321). -/
@[simp] def execReti (s : State) : Result :=
  returnFromInterrupt s

/-- `JP C,a16`, 0xDA (R312). -/
@[simp] def execJpCA16 (a : Word) (s : State) : Result :=
  jumpIf .c a s

/-- `CALL C,a16`, 0xDC (R317). -/
@[simp] def execCallCA16 (a : Word) (s : State) : Result :=
  callIf .c a s

/-- `RST 18h`, 0xDF (R320). -/
@[simp] def execRst18 (s : State) : Result :=
  callSub 0x18 s

/-- `RST 20h`, 0xE7 (R320). -/
@[simp] def execRst20 (s : State) : Result :=
  callSub 0x20 s

/-- `JP HL`, 0xE9 (R313). -/
@[simp] def execJpHl (s : State) : Result :=
  .next { s with pc := s.hl }

/-- `RST 28h`, 0xEF (R320). -/
@[simp] def execRst28 (s : State) : Result :=
  callSub 0x28 s

/-- `RST 30h`, 0xF7 (R320). -/
@[simp] def execRst30 (s : State) : Result :=
  callSub 0x30 s

/-- `RST 38h`, 0xFF (R320). -/
@[simp] def execRst38 (s : State) : Result :=
  callSub 0x38 s

end Sys2Proof.Machine
end

