-- ==== Sys2Proof/Machine/Load.lean ====
section
/-! DEFINITION. Loads, stores and the stack (spec/40_load.md R201 to R234). A meaning runs with PC past the
instruction's bytes and its operand bytes assembled (R200, R129). -/

namespace Sys2Proof.Machine

/-- `r8[y] <- r8[z]` (R201). -/
def copyReg (dst src : Reg8) (s : State) : Result := .next (s.setReg8 dst (s.reg8 src))

/-- `rp2[p] <- pop16()`; AF takes `v & 0xFFF0` (R232, R234). -/
def popTo (dst : Reg16) (s : State) : Result := pop16 s fun w s => .next (s.setReg16 dst w)

/-- `LD BC,d16`, 0x01 (R220). -/
@[simp] def execLdBcD16 (n : Word) (s : State) : Result :=
  .next (s.setReg16 .bc n)

/-- `LD (BC),A`, 0x02 (R208). -/
@[simp] def execLdAtBcA (s : State) : Result :=
  memWrite s.bc (s.reg8 .a) s

/-- `LD B,d8`, 0x06 (R204). -/
@[simp] def execLdBD8 (n : Byte) (s : State) : Result :=
  .next (s.setReg8 .b n)

/-- `LD (a16),SP`, 0x08 (R221). -/
@[simp] def execLdAtA16Sp (a : Word) (s : State) : Result :=
  andThen (memWrite a (loByte s.sp) s) fun s => memWrite (a + 1) (hiByte s.sp) s

/-- `LD A,(BC)`, 0x0A (R206). -/
@[simp] def execLdAAtBc (s : State) : Result :=
  loadFrom .a s.bc s

/-- `LD C,d8`, 0x0E (R204). -/
@[simp] def execLdCD8 (n : Byte) (s : State) : Result :=
  .next (s.setReg8 .c n)

/-- `LD DE,d16`, 0x11 (R220). -/
@[simp] def execLdDeD16 (n : Word) (s : State) : Result :=
  .next (s.setReg16 .de n)

/-- `LD (DE),A`, 0x12 (R209). -/
@[simp] def execLdAtDeA (s : State) : Result :=
  memWrite s.de (s.reg8 .a) s

/-- `LD D,d8`, 0x16 (R204). -/
@[simp] def execLdDD8 (n : Byte) (s : State) : Result :=
  .next (s.setReg8 .d n)

/-- `LD A,(DE)`, 0x1A (R207). -/
@[simp] def execLdAAtDe (s : State) : Result :=
  loadFrom .a s.de s

/-- `LD E,d8`, 0x1E (R204). -/
@[simp] def execLdED8 (n : Byte) (s : State) : Result :=
  .next (s.setReg8 .e n)

/-- `LD HL,d16`, 0x21 (R220). -/
@[simp] def execLdHlD16 (n : Word) (s : State) : Result :=
  .next (s.setReg16 .hl n)

/-- `LD (HL+),A`, 0x22 (R212). -/
@[simp] def execLdAtHlIncA (s : State) : Result :=
  andThen (memWrite s.hl (s.reg8 .a) s) fun s => .next (s.setReg16 .hl (s.hl + 1))

/-- `LD H,d8`, 0x26 (R204). -/
@[simp] def execLdHD8 (n : Byte) (s : State) : Result :=
  .next (s.setReg8 .h n)

/-- `LD A,(HL+)`, 0x2A (R210). -/
@[simp] def execLdAAtHlInc (s : State) : Result :=
  andThen (loadFrom .a s.hl s) fun s => .next (s.setReg16 .hl (s.hl + 1))

/-- `LD L,d8`, 0x2E (R204). -/
@[simp] def execLdLD8 (n : Byte) (s : State) : Result :=
  .next (s.setReg8 .l n)

/-- `LD SP,d16`, 0x31 (R220). -/
@[simp] def execLdSpD16 (n : Word) (s : State) : Result :=
  .next (s.setReg16 .sp n)

/-- `LD (HL-),A`, 0x32 (R213). -/
@[simp] def execLdAtHlDecA (s : State) : Result :=
  andThen (memWrite s.hl (s.reg8 .a) s) fun s => .next (s.setReg16 .hl (s.hl - 1))

/-- `LD (HL),d8`, 0x36 (R205). -/
@[simp] def execLdAtHlD8 (n : Byte) (s : State) : Result :=
  memWrite s.hl n s

/-- `LD A,(HL-)`, 0x3A (R211). -/
@[simp] def execLdAAtHlDec (s : State) : Result :=
  andThen (loadFrom .a s.hl s) fun s => .next (s.setReg16 .hl (s.hl - 1))

/-- `LD A,d8`, 0x3E (R204). -/
@[simp] def execLdAD8 (n : Byte) (s : State) : Result :=
  .next (s.setReg8 .a n)

/-- `LD B,B`, 0x40 (R201). -/
@[simp] def execLdBB (s : State) : Result :=
  copyReg .b .b s

/-- `LD B,C`, 0x41 (R201). -/
@[simp] def execLdBC (s : State) : Result :=
  copyReg .b .c s

/-- `LD B,D`, 0x42 (R201). -/
@[simp] def execLdBD (s : State) : Result :=
  copyReg .b .d s

/-- `LD B,E`, 0x43 (R201). -/
@[simp] def execLdBE (s : State) : Result :=
  copyReg .b .e s

/-- `LD B,H`, 0x44 (R201). -/
@[simp] def execLdBH (s : State) : Result :=
  copyReg .b .h s

/-- `LD B,L`, 0x45 (R201). -/
@[simp] def execLdBL (s : State) : Result :=
  copyReg .b .l s

/-- `LD B,(HL)`, 0x46 (R202). -/
@[simp] def execLdBAtHl (s : State) : Result :=
  loadFrom .b s.hl s

/-- `LD B,A`, 0x47 (R201). -/
@[simp] def execLdBA (s : State) : Result :=
  copyReg .b .a s

/-- `LD C,B`, 0x48 (R201). -/
@[simp] def execLdCB (s : State) : Result :=
  copyReg .c .b s

/-- `LD C,C`, 0x49 (R201). -/
@[simp] def execLdCC (s : State) : Result :=
  copyReg .c .c s

/-- `LD C,D`, 0x4A (R201). -/
@[simp] def execLdCD (s : State) : Result :=
  copyReg .c .d s

/-- `LD C,E`, 0x4B (R201). -/
@[simp] def execLdCE (s : State) : Result :=
  copyReg .c .e s

/-- `LD C,H`, 0x4C (R201). -/
@[simp] def execLdCH (s : State) : Result :=
  copyReg .c .h s

/-- `LD C,L`, 0x4D (R201). -/
@[simp] def execLdCL (s : State) : Result :=
  copyReg .c .l s

/-- `LD C,(HL)`, 0x4E (R202). -/
@[simp] def execLdCAtHl (s : State) : Result :=
  loadFrom .c s.hl s

/-- `LD C,A`, 0x4F (R201). -/
@[simp] def execLdCA (s : State) : Result :=
  copyReg .c .a s

/-- `LD D,B`, 0x50 (R201). -/
@[simp] def execLdDB (s : State) : Result :=
  copyReg .d .b s

/-- `LD D,C`, 0x51 (R201). -/
@[simp] def execLdDC (s : State) : Result :=
  copyReg .d .c s

/-- `LD D,D`, 0x52 (R201). -/
@[simp] def execLdDD (s : State) : Result :=
  copyReg .d .d s

/-- `LD D,E`, 0x53 (R201). -/
@[simp] def execLdDE (s : State) : Result :=
  copyReg .d .e s

/-- `LD D,H`, 0x54 (R201). -/
@[simp] def execLdDH (s : State) : Result :=
  copyReg .d .h s

/-- `LD D,L`, 0x55 (R201). -/
@[simp] def execLdDL (s : State) : Result :=
  copyReg .d .l s

/-- `LD D,(HL)`, 0x56 (R202). -/
@[simp] def execLdDAtHl (s : State) : Result :=
  loadFrom .d s.hl s

/-- `LD D,A`, 0x57 (R201). -/
@[simp] def execLdDA (s : State) : Result :=
  copyReg .d .a s

/-- `LD E,B`, 0x58 (R201). -/
@[simp] def execLdEB (s : State) : Result :=
  copyReg .e .b s

/-- `LD E,C`, 0x59 (R201). -/
@[simp] def execLdEC (s : State) : Result :=
  copyReg .e .c s

/-- `LD E,D`, 0x5A (R201). -/
@[simp] def execLdED (s : State) : Result :=
  copyReg .e .d s

/-- `LD E,E`, 0x5B (R201). -/
@[simp] def execLdEE (s : State) : Result :=
  copyReg .e .e s

/-- `LD E,H`, 0x5C (R201). -/
@[simp] def execLdEH (s : State) : Result :=
  copyReg .e .h s

/-- `LD E,L`, 0x5D (R201). -/
@[simp] def execLdEL (s : State) : Result :=
  copyReg .e .l s

/-- `LD E,(HL)`, 0x5E (R202). -/
@[simp] def execLdEAtHl (s : State) : Result :=
  loadFrom .e s.hl s

/-- `LD E,A`, 0x5F (R201). -/
@[simp] def execLdEA (s : State) : Result :=
  copyReg .e .a s

/-- `LD H,B`, 0x60 (R201). -/
@[simp] def execLdHB (s : State) : Result :=
  copyReg .h .b s

/-- `LD H,C`, 0x61 (R201). -/
@[simp] def execLdHC (s : State) : Result :=
  copyReg .h .c s

/-- `LD H,D`, 0x62 (R201). -/
@[simp] def execLdHD (s : State) : Result :=
  copyReg .h .d s

/-- `LD H,E`, 0x63 (R201). -/
@[simp] def execLdHE (s : State) : Result :=
  copyReg .h .e s

/-- `LD H,H`, 0x64 (R201). -/
@[simp] def execLdHH (s : State) : Result :=
  copyReg .h .h s

/-- `LD H,L`, 0x65 (R201). -/
@[simp] def execLdHL (s : State) : Result :=
  copyReg .h .l s

/-- `LD H,(HL)`, 0x66 (R202). -/
@[simp] def execLdHAtHl (s : State) : Result :=
  loadFrom .h s.hl s

/-- `LD H,A`, 0x67 (R201). -/
@[simp] def execLdHA (s : State) : Result :=
  copyReg .h .a s

/-- `LD L,B`, 0x68 (R201). -/
@[simp] def execLdLB (s : State) : Result :=
  copyReg .l .b s

/-- `LD L,C`, 0x69 (R201). -/
@[simp] def execLdLC (s : State) : Result :=
  copyReg .l .c s

/-- `LD L,D`, 0x6A (R201). -/
@[simp] def execLdLD (s : State) : Result :=
  copyReg .l .d s

/-- `LD L,E`, 0x6B (R201). -/
@[simp] def execLdLE (s : State) : Result :=
  copyReg .l .e s

/-- `LD L,H`, 0x6C (R201). -/
@[simp] def execLdLH (s : State) : Result :=
  copyReg .l .h s

/-- `LD L,L`, 0x6D (R201). -/
@[simp] def execLdLL (s : State) : Result :=
  copyReg .l .l s

/-- `LD L,(HL)`, 0x6E (R202). -/
@[simp] def execLdLAtHl (s : State) : Result :=
  loadFrom .l s.hl s

/-- `LD L,A`, 0x6F (R201). -/
@[simp] def execLdLA (s : State) : Result :=
  copyReg .l .a s

/-- `LD (HL),B`, 0x70 (R203). -/
@[simp] def execLdAtHlB (s : State) : Result :=
  memWrite s.hl (s.reg8 .b) s

/-- `LD (HL),C`, 0x71 (R203). -/
@[simp] def execLdAtHlC (s : State) : Result :=
  memWrite s.hl (s.reg8 .c) s

/-- `LD (HL),D`, 0x72 (R203). -/
@[simp] def execLdAtHlD (s : State) : Result :=
  memWrite s.hl (s.reg8 .d) s

/-- `LD (HL),E`, 0x73 (R203). -/
@[simp] def execLdAtHlE (s : State) : Result :=
  memWrite s.hl (s.reg8 .e) s

/-- `LD (HL),H`, 0x74 (R203). -/
@[simp] def execLdAtHlH (s : State) : Result :=
  memWrite s.hl (s.reg8 .h) s

/-- `LD (HL),L`, 0x75 (R203). -/
@[simp] def execLdAtHlL (s : State) : Result :=
  memWrite s.hl (s.reg8 .l) s

/-- `LD (HL),A`, 0x77 (R203). -/
@[simp] def execLdAtHlA (s : State) : Result :=
  memWrite s.hl (s.reg8 .a) s

/-- `LD A,B`, 0x78 (R201). -/
@[simp] def execLdAB (s : State) : Result :=
  copyReg .a .b s

/-- `LD A,C`, 0x79 (R201). -/
@[simp] def execLdAC (s : State) : Result :=
  copyReg .a .c s

/-- `LD A,D`, 0x7A (R201). -/
@[simp] def execLdAD (s : State) : Result :=
  copyReg .a .d s

/-- `LD A,E`, 0x7B (R201). -/
@[simp] def execLdAE (s : State) : Result :=
  copyReg .a .e s

/-- `LD A,H`, 0x7C (R201). -/
@[simp] def execLdAH (s : State) : Result :=
  copyReg .a .h s

/-- `LD A,L`, 0x7D (R201). -/
@[simp] def execLdAL (s : State) : Result :=
  copyReg .a .l s

/-- `LD A,(HL)`, 0x7E (R202). -/
@[simp] def execLdAAtHl (s : State) : Result :=
  loadFrom .a s.hl s

/-- `LD A,A`, 0x7F (R201). -/
@[simp] def execLdAA (s : State) : Result :=
  copyReg .a .a s

/-- `POP BC`, 0xC1 (R234). -/
@[simp] def execPopBc (s : State) : Result :=
  popTo .bc s

/-- `PUSH BC`, 0xC5 (R233). -/
@[simp] def execPushBc (s : State) : Result :=
  push16 (s.reg16 .bc) s

/-- `POP DE`, 0xD1 (R234). -/
@[simp] def execPopDe (s : State) : Result :=
  popTo .de s

/-- `PUSH DE`, 0xD5 (R233). -/
@[simp] def execPushDe (s : State) : Result :=
  push16 (s.reg16 .de) s

/-- `LDH (a8),A`, 0xE0 (R217). -/
@[simp] def execLdhAtA8A (n : Byte) (s : State) : Result :=
  memWrite (pageFF n) (s.reg8 .a) s

/-- `POP HL`, 0xE1 (R234). -/
@[simp] def execPopHl (s : State) : Result :=
  popTo .hl s

/-- `LD (C),A`, 0xE2 (R219). -/
@[simp] def execLdAtCA (s : State) : Result :=
  memWrite (pageFF (s.reg8 .c)) (s.reg8 .a) s

/-- `PUSH HL`, 0xE5 (R233). -/
@[simp] def execPushHl (s : State) : Result :=
  push16 (s.reg16 .hl) s

/-- `LD (a16),A`, 0xEA (R215). -/
@[simp] def execLdAtA16A (a : Word) (s : State) : Result :=
  memWrite a (s.reg8 .a) s

/-- `LDH A,(a8)`, 0xF0 (R216). -/
@[simp] def execLdhAAtA8 (n : Byte) (s : State) : Result :=
  loadFrom .a (pageFF n) s

/-- `POP AF`, 0xF1 (R232). -/
@[simp] def execPopAf (s : State) : Result :=
  popTo .af s

/-- `LD A,(C)`, 0xF2 (R218). -/
@[simp] def execLdAAtC (s : State) : Result :=
  loadFrom .a (pageFF (s.reg8 .c)) s

/-- `PUSH AF`, 0xF5 (R233). -/
@[simp] def execPushAf (s : State) : Result :=
  push16 (s.reg16 .af) s

/-- `LD HL,SP+e8`, 0xF8 (R226). -/
@[simp] def execLdHlSpE8 (n : Byte) (s : State) : Result :=
  spRelative .hl n s

/-- `LD SP,HL`, 0xF9 (R222). -/
@[simp] def execLdSpHl (s : State) : Result :=
  .next (s.setReg16 .sp s.hl)

/-- `LD A,(a16)`, 0xFA (R214). -/
@[simp] def execLdAAtA16 (a : Word) (s : State) : Result :=
  loadFrom .a a s

end Sys2Proof.Machine
end

