-- ==== Sys2Proof/Machine/RotateShiftBit.lean ====
section
/-! DEFINITION. Rotates, shifts and bit operations (spec/43_rotate_shift_bit.md R281 to R297). -/

namespace Sys2Proof.Machine

/-- `RLCA`, 0x07 (R281). -/
@[simp] def execRlca (s : State) : Result :=
  .next (rotateA .rlc s)

/-- `RRCA`, 0x0F (R282). -/
@[simp] def execRrca (s : State) : Result :=
  .next (rotateA .rrc s)

/-- `RLA`, 0x17 (R283). -/
@[simp] def execRla (s : State) : Result :=
  .next (rotateA .rl s)

/-- `RRA`, 0x1F (R284). -/
@[simp] def execRra (s : State) : Result :=
  .next (rotateA .rr s)

/-- `RLC B`, 0xCB 0x00 (R286). -/
@[simp] def execRlcB (s : State) : Result :=
  rotateOperand .rlc (.reg .b) s

/-- `RLC C`, 0xCB 0x01 (R286). -/
@[simp] def execRlcC (s : State) : Result :=
  rotateOperand .rlc (.reg .c) s

/-- `RLC D`, 0xCB 0x02 (R286). -/
@[simp] def execRlcD (s : State) : Result :=
  rotateOperand .rlc (.reg .d) s

/-- `RLC E`, 0xCB 0x03 (R286). -/
@[simp] def execRlcE (s : State) : Result :=
  rotateOperand .rlc (.reg .e) s

/-- `RLC H`, 0xCB 0x04 (R286). -/
@[simp] def execRlcH (s : State) : Result :=
  rotateOperand .rlc (.reg .h) s

/-- `RLC L`, 0xCB 0x05 (R286). -/
@[simp] def execRlcL (s : State) : Result :=
  rotateOperand .rlc (.reg .l) s

/-- `RLC (HL)`, 0xCB 0x06 (R286). -/
@[simp] def execRlcAtHl (s : State) : Result :=
  rotateOperand .rlc .atHl s

/-- `RLC A`, 0xCB 0x07 (R286). -/
@[simp] def execRlcA (s : State) : Result :=
  rotateOperand .rlc (.reg .a) s

/-- `RRC B`, 0xCB 0x08 (R287). -/
@[simp] def execRrcB (s : State) : Result :=
  rotateOperand .rrc (.reg .b) s

/-- `RRC C`, 0xCB 0x09 (R287). -/
@[simp] def execRrcC (s : State) : Result :=
  rotateOperand .rrc (.reg .c) s

/-- `RRC D`, 0xCB 0x0A (R287). -/
@[simp] def execRrcD (s : State) : Result :=
  rotateOperand .rrc (.reg .d) s

/-- `RRC E`, 0xCB 0x0B (R287). -/
@[simp] def execRrcE (s : State) : Result :=
  rotateOperand .rrc (.reg .e) s

/-- `RRC H`, 0xCB 0x0C (R287). -/
@[simp] def execRrcH (s : State) : Result :=
  rotateOperand .rrc (.reg .h) s

/-- `RRC L`, 0xCB 0x0D (R287). -/
@[simp] def execRrcL (s : State) : Result :=
  rotateOperand .rrc (.reg .l) s

/-- `RRC (HL)`, 0xCB 0x0E (R287). -/
@[simp] def execRrcAtHl (s : State) : Result :=
  rotateOperand .rrc .atHl s

/-- `RRC A`, 0xCB 0x0F (R287). -/
@[simp] def execRrcA (s : State) : Result :=
  rotateOperand .rrc (.reg .a) s

/-- `RL B`, 0xCB 0x10 (R288). -/
@[simp] def execRlB (s : State) : Result :=
  rotateOperand .rl (.reg .b) s

/-- `RL C`, 0xCB 0x11 (R288). -/
@[simp] def execRlC (s : State) : Result :=
  rotateOperand .rl (.reg .c) s

/-- `RL D`, 0xCB 0x12 (R288). -/
@[simp] def execRlD (s : State) : Result :=
  rotateOperand .rl (.reg .d) s

/-- `RL E`, 0xCB 0x13 (R288). -/
@[simp] def execRlE (s : State) : Result :=
  rotateOperand .rl (.reg .e) s

/-- `RL H`, 0xCB 0x14 (R288). -/
@[simp] def execRlH (s : State) : Result :=
  rotateOperand .rl (.reg .h) s

/-- `RL L`, 0xCB 0x15 (R288). -/
@[simp] def execRlL (s : State) : Result :=
  rotateOperand .rl (.reg .l) s

/-- `RL (HL)`, 0xCB 0x16 (R288). -/
@[simp] def execRlAtHl (s : State) : Result :=
  rotateOperand .rl .atHl s

/-- `RL A`, 0xCB 0x17 (R288). -/
@[simp] def execRlA (s : State) : Result :=
  rotateOperand .rl (.reg .a) s

/-- `RR B`, 0xCB 0x18 (R289). -/
@[simp] def execRrB (s : State) : Result :=
  rotateOperand .rr (.reg .b) s

/-- `RR C`, 0xCB 0x19 (R289). -/
@[simp] def execRrC (s : State) : Result :=
  rotateOperand .rr (.reg .c) s

/-- `RR D`, 0xCB 0x1A (R289). -/
@[simp] def execRrD (s : State) : Result :=
  rotateOperand .rr (.reg .d) s

/-- `RR E`, 0xCB 0x1B (R289). -/
@[simp] def execRrE (s : State) : Result :=
  rotateOperand .rr (.reg .e) s

/-- `RR H`, 0xCB 0x1C (R289). -/
@[simp] def execRrH (s : State) : Result :=
  rotateOperand .rr (.reg .h) s

/-- `RR L`, 0xCB 0x1D (R289). -/
@[simp] def execRrL (s : State) : Result :=
  rotateOperand .rr (.reg .l) s

/-- `RR (HL)`, 0xCB 0x1E (R289). -/
@[simp] def execRrAtHl (s : State) : Result :=
  rotateOperand .rr .atHl s

/-- `RR A`, 0xCB 0x1F (R289). -/
@[simp] def execRrA (s : State) : Result :=
  rotateOperand .rr (.reg .a) s

/-- `SLA B`, 0xCB 0x20 (R290). -/
@[simp] def execSlaB (s : State) : Result :=
  rotateOperand .sla (.reg .b) s

/-- `SLA C`, 0xCB 0x21 (R290). -/
@[simp] def execSlaC (s : State) : Result :=
  rotateOperand .sla (.reg .c) s

/-- `SLA D`, 0xCB 0x22 (R290). -/
@[simp] def execSlaD (s : State) : Result :=
  rotateOperand .sla (.reg .d) s

/-- `SLA E`, 0xCB 0x23 (R290). -/
@[simp] def execSlaE (s : State) : Result :=
  rotateOperand .sla (.reg .e) s

/-- `SLA H`, 0xCB 0x24 (R290). -/
@[simp] def execSlaH (s : State) : Result :=
  rotateOperand .sla (.reg .h) s

/-- `SLA L`, 0xCB 0x25 (R290). -/
@[simp] def execSlaL (s : State) : Result :=
  rotateOperand .sla (.reg .l) s

/-- `SLA (HL)`, 0xCB 0x26 (R290). -/
@[simp] def execSlaAtHl (s : State) : Result :=
  rotateOperand .sla .atHl s

/-- `SLA A`, 0xCB 0x27 (R290). -/
@[simp] def execSlaA (s : State) : Result :=
  rotateOperand .sla (.reg .a) s

/-- `SRA B`, 0xCB 0x28 (R291). -/
@[simp] def execSraB (s : State) : Result :=
  rotateOperand .sra (.reg .b) s

/-- `SRA C`, 0xCB 0x29 (R291). -/
@[simp] def execSraC (s : State) : Result :=
  rotateOperand .sra (.reg .c) s

/-- `SRA D`, 0xCB 0x2A (R291). -/
@[simp] def execSraD (s : State) : Result :=
  rotateOperand .sra (.reg .d) s

/-- `SRA E`, 0xCB 0x2B (R291). -/
@[simp] def execSraE (s : State) : Result :=
  rotateOperand .sra (.reg .e) s

/-- `SRA H`, 0xCB 0x2C (R291). -/
@[simp] def execSraH (s : State) : Result :=
  rotateOperand .sra (.reg .h) s

/-- `SRA L`, 0xCB 0x2D (R291). -/
@[simp] def execSraL (s : State) : Result :=
  rotateOperand .sra (.reg .l) s

/-- `SRA (HL)`, 0xCB 0x2E (R291). -/
@[simp] def execSraAtHl (s : State) : Result :=
  rotateOperand .sra .atHl s

/-- `SRA A`, 0xCB 0x2F (R291). -/
@[simp] def execSraA (s : State) : Result :=
  rotateOperand .sra (.reg .a) s

/-- `SWAP B`, 0xCB 0x30 (R292). -/
@[simp] def execSwapB (s : State) : Result :=
  rotateOperand .swap (.reg .b) s

/-- `SWAP C`, 0xCB 0x31 (R292). -/
@[simp] def execSwapC (s : State) : Result :=
  rotateOperand .swap (.reg .c) s

/-- `SWAP D`, 0xCB 0x32 (R292). -/
@[simp] def execSwapD (s : State) : Result :=
  rotateOperand .swap (.reg .d) s

/-- `SWAP E`, 0xCB 0x33 (R292). -/
@[simp] def execSwapE (s : State) : Result :=
  rotateOperand .swap (.reg .e) s

/-- `SWAP H`, 0xCB 0x34 (R292). -/
@[simp] def execSwapH (s : State) : Result :=
  rotateOperand .swap (.reg .h) s

/-- `SWAP L`, 0xCB 0x35 (R292). -/
@[simp] def execSwapL (s : State) : Result :=
  rotateOperand .swap (.reg .l) s

/-- `SWAP (HL)`, 0xCB 0x36 (R292). -/
@[simp] def execSwapAtHl (s : State) : Result :=
  rotateOperand .swap .atHl s

/-- `SWAP A`, 0xCB 0x37 (R292). -/
@[simp] def execSwapA (s : State) : Result :=
  rotateOperand .swap (.reg .a) s

/-- `SRL B`, 0xCB 0x38 (R293). -/
@[simp] def execSrlB (s : State) : Result :=
  rotateOperand .srl (.reg .b) s

/-- `SRL C`, 0xCB 0x39 (R293). -/
@[simp] def execSrlC (s : State) : Result :=
  rotateOperand .srl (.reg .c) s

/-- `SRL D`, 0xCB 0x3A (R293). -/
@[simp] def execSrlD (s : State) : Result :=
  rotateOperand .srl (.reg .d) s

/-- `SRL E`, 0xCB 0x3B (R293). -/
@[simp] def execSrlE (s : State) : Result :=
  rotateOperand .srl (.reg .e) s

/-- `SRL H`, 0xCB 0x3C (R293). -/
@[simp] def execSrlH (s : State) : Result :=
  rotateOperand .srl (.reg .h) s

/-- `SRL L`, 0xCB 0x3D (R293). -/
@[simp] def execSrlL (s : State) : Result :=
  rotateOperand .srl (.reg .l) s

/-- `SRL (HL)`, 0xCB 0x3E (R293). -/
@[simp] def execSrlAtHl (s : State) : Result :=
  rotateOperand .srl .atHl s

/-- `SRL A`, 0xCB 0x3F (R293). -/
@[simp] def execSrlA (s : State) : Result :=
  rotateOperand .srl (.reg .a) s

/-- `BIT 0,B`, 0xCB 0x40 (R295). -/
@[simp] def execBit0B (s : State) : Result :=
  bitOperand 0 (.reg .b) s

/-- `BIT 0,C`, 0xCB 0x41 (R295). -/
@[simp] def execBit0C (s : State) : Result :=
  bitOperand 0 (.reg .c) s

/-- `BIT 0,D`, 0xCB 0x42 (R295). -/
@[simp] def execBit0D (s : State) : Result :=
  bitOperand 0 (.reg .d) s

/-- `BIT 0,E`, 0xCB 0x43 (R295). -/
@[simp] def execBit0E (s : State) : Result :=
  bitOperand 0 (.reg .e) s

/-- `BIT 0,H`, 0xCB 0x44 (R295). -/
@[simp] def execBit0H (s : State) : Result :=
  bitOperand 0 (.reg .h) s

/-- `BIT 0,L`, 0xCB 0x45 (R295). -/
@[simp] def execBit0L (s : State) : Result :=
  bitOperand 0 (.reg .l) s

/-- `BIT 0,(HL)`, 0xCB 0x46 (R295). -/
@[simp] def execBit0AtHl (s : State) : Result :=
  bitOperand 0 .atHl s

/-- `BIT 0,A`, 0xCB 0x47 (R295). -/
@[simp] def execBit0A (s : State) : Result :=
  bitOperand 0 (.reg .a) s

/-- `BIT 1,B`, 0xCB 0x48 (R295). -/
@[simp] def execBit1B (s : State) : Result :=
  bitOperand 1 (.reg .b) s

/-- `BIT 1,C`, 0xCB 0x49 (R295). -/
@[simp] def execBit1C (s : State) : Result :=
  bitOperand 1 (.reg .c) s

/-- `BIT 1,D`, 0xCB 0x4A (R295). -/
@[simp] def execBit1D (s : State) : Result :=
  bitOperand 1 (.reg .d) s

/-- `BIT 1,E`, 0xCB 0x4B (R295). -/
@[simp] def execBit1E (s : State) : Result :=
  bitOperand 1 (.reg .e) s

/-- `BIT 1,H`, 0xCB 0x4C (R295). -/
@[simp] def execBit1H (s : State) : Result :=
  bitOperand 1 (.reg .h) s

/-- `BIT 1,L`, 0xCB 0x4D (R295). -/
@[simp] def execBit1L (s : State) : Result :=
  bitOperand 1 (.reg .l) s

/-- `BIT 1,(HL)`, 0xCB 0x4E (R295). -/
@[simp] def execBit1AtHl (s : State) : Result :=
  bitOperand 1 .atHl s

/-- `BIT 1,A`, 0xCB 0x4F (R295). -/
@[simp] def execBit1A (s : State) : Result :=
  bitOperand 1 (.reg .a) s

/-- `BIT 2,B`, 0xCB 0x50 (R295). -/
@[simp] def execBit2B (s : State) : Result :=
  bitOperand 2 (.reg .b) s

/-- `BIT 2,C`, 0xCB 0x51 (R295). -/
@[simp] def execBit2C (s : State) : Result :=
  bitOperand 2 (.reg .c) s

/-- `BIT 2,D`, 0xCB 0x52 (R295). -/
@[simp] def execBit2D (s : State) : Result :=
  bitOperand 2 (.reg .d) s

/-- `BIT 2,E`, 0xCB 0x53 (R295). -/
@[simp] def execBit2E (s : State) : Result :=
  bitOperand 2 (.reg .e) s

/-- `BIT 2,H`, 0xCB 0x54 (R295). -/
@[simp] def execBit2H (s : State) : Result :=
  bitOperand 2 (.reg .h) s

/-- `BIT 2,L`, 0xCB 0x55 (R295). -/
@[simp] def execBit2L (s : State) : Result :=
  bitOperand 2 (.reg .l) s

/-- `BIT 2,(HL)`, 0xCB 0x56 (R295). -/
@[simp] def execBit2AtHl (s : State) : Result :=
  bitOperand 2 .atHl s

/-- `BIT 2,A`, 0xCB 0x57 (R295). -/
@[simp] def execBit2A (s : State) : Result :=
  bitOperand 2 (.reg .a) s

/-- `BIT 3,B`, 0xCB 0x58 (R295). -/
@[simp] def execBit3B (s : State) : Result :=
  bitOperand 3 (.reg .b) s

/-- `BIT 3,C`, 0xCB 0x59 (R295). -/
@[simp] def execBit3C (s : State) : Result :=
  bitOperand 3 (.reg .c) s

/-- `BIT 3,D`, 0xCB 0x5A (R295). -/
@[simp] def execBit3D (s : State) : Result :=
  bitOperand 3 (.reg .d) s

/-- `BIT 3,E`, 0xCB 0x5B (R295). -/
@[simp] def execBit3E (s : State) : Result :=
  bitOperand 3 (.reg .e) s

/-- `BIT 3,H`, 0xCB 0x5C (R295). -/
@[simp] def execBit3H (s : State) : Result :=
  bitOperand 3 (.reg .h) s

/-- `BIT 3,L`, 0xCB 0x5D (R295). -/
@[simp] def execBit3L (s : State) : Result :=
  bitOperand 3 (.reg .l) s

/-- `BIT 3,(HL)`, 0xCB 0x5E (R295). -/
@[simp] def execBit3AtHl (s : State) : Result :=
  bitOperand 3 .atHl s

/-- `BIT 3,A`, 0xCB 0x5F (R295). -/
@[simp] def execBit3A (s : State) : Result :=
  bitOperand 3 (.reg .a) s

/-- `BIT 4,B`, 0xCB 0x60 (R295). -/
@[simp] def execBit4B (s : State) : Result :=
  bitOperand 4 (.reg .b) s

/-- `BIT 4,C`, 0xCB 0x61 (R295). -/
@[simp] def execBit4C (s : State) : Result :=
  bitOperand 4 (.reg .c) s

/-- `BIT 4,D`, 0xCB 0x62 (R295). -/
@[simp] def execBit4D (s : State) : Result :=
  bitOperand 4 (.reg .d) s

/-- `BIT 4,E`, 0xCB 0x63 (R295). -/
@[simp] def execBit4E (s : State) : Result :=
  bitOperand 4 (.reg .e) s

/-- `BIT 4,H`, 0xCB 0x64 (R295). -/
@[simp] def execBit4H (s : State) : Result :=
  bitOperand 4 (.reg .h) s

/-- `BIT 4,L`, 0xCB 0x65 (R295). -/
@[simp] def execBit4L (s : State) : Result :=
  bitOperand 4 (.reg .l) s

/-- `BIT 4,(HL)`, 0xCB 0x66 (R295). -/
@[simp] def execBit4AtHl (s : State) : Result :=
  bitOperand 4 .atHl s

/-- `BIT 4,A`, 0xCB 0x67 (R295). -/
@[simp] def execBit4A (s : State) : Result :=
  bitOperand 4 (.reg .a) s

/-- `BIT 5,B`, 0xCB 0x68 (R295). -/
@[simp] def execBit5B (s : State) : Result :=
  bitOperand 5 (.reg .b) s

/-- `BIT 5,C`, 0xCB 0x69 (R295). -/
@[simp] def execBit5C (s : State) : Result :=
  bitOperand 5 (.reg .c) s

/-- `BIT 5,D`, 0xCB 0x6A (R295). -/
@[simp] def execBit5D (s : State) : Result :=
  bitOperand 5 (.reg .d) s

/-- `BIT 5,E`, 0xCB 0x6B (R295). -/
@[simp] def execBit5E (s : State) : Result :=
  bitOperand 5 (.reg .e) s

/-- `BIT 5,H`, 0xCB 0x6C (R295). -/
@[simp] def execBit5H (s : State) : Result :=
  bitOperand 5 (.reg .h) s

/-- `BIT 5,L`, 0xCB 0x6D (R295). -/
@[simp] def execBit5L (s : State) : Result :=
  bitOperand 5 (.reg .l) s

/-- `BIT 5,(HL)`, 0xCB 0x6E (R295). -/
@[simp] def execBit5AtHl (s : State) : Result :=
  bitOperand 5 .atHl s

/-- `BIT 5,A`, 0xCB 0x6F (R295). -/
@[simp] def execBit5A (s : State) : Result :=
  bitOperand 5 (.reg .a) s

/-- `BIT 6,B`, 0xCB 0x70 (R295). -/
@[simp] def execBit6B (s : State) : Result :=
  bitOperand 6 (.reg .b) s

/-- `BIT 6,C`, 0xCB 0x71 (R295). -/
@[simp] def execBit6C (s : State) : Result :=
  bitOperand 6 (.reg .c) s

/-- `BIT 6,D`, 0xCB 0x72 (R295). -/
@[simp] def execBit6D (s : State) : Result :=
  bitOperand 6 (.reg .d) s

/-- `BIT 6,E`, 0xCB 0x73 (R295). -/
@[simp] def execBit6E (s : State) : Result :=
  bitOperand 6 (.reg .e) s

/-- `BIT 6,H`, 0xCB 0x74 (R295). -/
@[simp] def execBit6H (s : State) : Result :=
  bitOperand 6 (.reg .h) s

/-- `BIT 6,L`, 0xCB 0x75 (R295). -/
@[simp] def execBit6L (s : State) : Result :=
  bitOperand 6 (.reg .l) s

/-- `BIT 6,(HL)`, 0xCB 0x76 (R295). -/
@[simp] def execBit6AtHl (s : State) : Result :=
  bitOperand 6 .atHl s

/-- `BIT 6,A`, 0xCB 0x77 (R295). -/
@[simp] def execBit6A (s : State) : Result :=
  bitOperand 6 (.reg .a) s

/-- `BIT 7,B`, 0xCB 0x78 (R295). -/
@[simp] def execBit7B (s : State) : Result :=
  bitOperand 7 (.reg .b) s

/-- `BIT 7,C`, 0xCB 0x79 (R295). -/
@[simp] def execBit7C (s : State) : Result :=
  bitOperand 7 (.reg .c) s

/-- `BIT 7,D`, 0xCB 0x7A (R295). -/
@[simp] def execBit7D (s : State) : Result :=
  bitOperand 7 (.reg .d) s

/-- `BIT 7,E`, 0xCB 0x7B (R295). -/
@[simp] def execBit7E (s : State) : Result :=
  bitOperand 7 (.reg .e) s

/-- `BIT 7,H`, 0xCB 0x7C (R295). -/
@[simp] def execBit7H (s : State) : Result :=
  bitOperand 7 (.reg .h) s

/-- `BIT 7,L`, 0xCB 0x7D (R295). -/
@[simp] def execBit7L (s : State) : Result :=
  bitOperand 7 (.reg .l) s

/-- `BIT 7,(HL)`, 0xCB 0x7E (R295). -/
@[simp] def execBit7AtHl (s : State) : Result :=
  bitOperand 7 .atHl s

/-- `BIT 7,A`, 0xCB 0x7F (R295). -/
@[simp] def execBit7A (s : State) : Result :=
  bitOperand 7 (.reg .a) s

/-- `RES 0,B`, 0xCB 0x80 (R296). -/
@[simp] def execRes0B (s : State) : Result :=
  mapOperand (resBit 0) (.reg .b) s

/-- `RES 0,C`, 0xCB 0x81 (R296). -/
@[simp] def execRes0C (s : State) : Result :=
  mapOperand (resBit 0) (.reg .c) s

/-- `RES 0,D`, 0xCB 0x82 (R296). -/
@[simp] def execRes0D (s : State) : Result :=
  mapOperand (resBit 0) (.reg .d) s

/-- `RES 0,E`, 0xCB 0x83 (R296). -/
@[simp] def execRes0E (s : State) : Result :=
  mapOperand (resBit 0) (.reg .e) s

/-- `RES 0,H`, 0xCB 0x84 (R296). -/
@[simp] def execRes0H (s : State) : Result :=
  mapOperand (resBit 0) (.reg .h) s

/-- `RES 0,L`, 0xCB 0x85 (R296). -/
@[simp] def execRes0L (s : State) : Result :=
  mapOperand (resBit 0) (.reg .l) s

/-- `RES 0,(HL)`, 0xCB 0x86 (R296). -/
@[simp] def execRes0AtHl (s : State) : Result :=
  mapOperand (resBit 0) .atHl s

/-- `RES 0,A`, 0xCB 0x87 (R296). -/
@[simp] def execRes0A (s : State) : Result :=
  mapOperand (resBit 0) (.reg .a) s

/-- `RES 1,B`, 0xCB 0x88 (R296). -/
@[simp] def execRes1B (s : State) : Result :=
  mapOperand (resBit 1) (.reg .b) s

/-- `RES 1,C`, 0xCB 0x89 (R296). -/
@[simp] def execRes1C (s : State) : Result :=
  mapOperand (resBit 1) (.reg .c) s

/-- `RES 1,D`, 0xCB 0x8A (R296). -/
@[simp] def execRes1D (s : State) : Result :=
  mapOperand (resBit 1) (.reg .d) s

/-- `RES 1,E`, 0xCB 0x8B (R296). -/
@[simp] def execRes1E (s : State) : Result :=
  mapOperand (resBit 1) (.reg .e) s

/-- `RES 1,H`, 0xCB 0x8C (R296). -/
@[simp] def execRes1H (s : State) : Result :=
  mapOperand (resBit 1) (.reg .h) s

/-- `RES 1,L`, 0xCB 0x8D (R296). -/
@[simp] def execRes1L (s : State) : Result :=
  mapOperand (resBit 1) (.reg .l) s

/-- `RES 1,(HL)`, 0xCB 0x8E (R296). -/
@[simp] def execRes1AtHl (s : State) : Result :=
  mapOperand (resBit 1) .atHl s

/-- `RES 1,A`, 0xCB 0x8F (R296). -/
@[simp] def execRes1A (s : State) : Result :=
  mapOperand (resBit 1) (.reg .a) s

/-- `RES 2,B`, 0xCB 0x90 (R296). -/
@[simp] def execRes2B (s : State) : Result :=
  mapOperand (resBit 2) (.reg .b) s

/-- `RES 2,C`, 0xCB 0x91 (R296). -/
@[simp] def execRes2C (s : State) : Result :=
  mapOperand (resBit 2) (.reg .c) s

/-- `RES 2,D`, 0xCB 0x92 (R296). -/
@[simp] def execRes2D (s : State) : Result :=
  mapOperand (resBit 2) (.reg .d) s

/-- `RES 2,E`, 0xCB 0x93 (R296). -/
@[simp] def execRes2E (s : State) : Result :=
  mapOperand (resBit 2) (.reg .e) s

/-- `RES 2,H`, 0xCB 0x94 (R296). -/
@[simp] def execRes2H (s : State) : Result :=
  mapOperand (resBit 2) (.reg .h) s

/-- `RES 2,L`, 0xCB 0x95 (R296). -/
@[simp] def execRes2L (s : State) : Result :=
  mapOperand (resBit 2) (.reg .l) s

/-- `RES 2,(HL)`, 0xCB 0x96 (R296). -/
@[simp] def execRes2AtHl (s : State) : Result :=
  mapOperand (resBit 2) .atHl s

/-- `RES 2,A`, 0xCB 0x97 (R296). -/
@[simp] def execRes2A (s : State) : Result :=
  mapOperand (resBit 2) (.reg .a) s

/-- `RES 3,B`, 0xCB 0x98 (R296). -/
@[simp] def execRes3B (s : State) : Result :=
  mapOperand (resBit 3) (.reg .b) s

/-- `RES 3,C`, 0xCB 0x99 (R296). -/
@[simp] def execRes3C (s : State) : Result :=
  mapOperand (resBit 3) (.reg .c) s

/-- `RES 3,D`, 0xCB 0x9A (R296). -/
@[simp] def execRes3D (s : State) : Result :=
  mapOperand (resBit 3) (.reg .d) s

/-- `RES 3,E`, 0xCB 0x9B (R296). -/
@[simp] def execRes3E (s : State) : Result :=
  mapOperand (resBit 3) (.reg .e) s

/-- `RES 3,H`, 0xCB 0x9C (R296). -/
@[simp] def execRes3H (s : State) : Result :=
  mapOperand (resBit 3) (.reg .h) s

/-- `RES 3,L`, 0xCB 0x9D (R296). -/
@[simp] def execRes3L (s : State) : Result :=
  mapOperand (resBit 3) (.reg .l) s

/-- `RES 3,(HL)`, 0xCB 0x9E (R296). -/
@[simp] def execRes3AtHl (s : State) : Result :=
  mapOperand (resBit 3) .atHl s

/-- `RES 3,A`, 0xCB 0x9F (R296). -/
@[simp] def execRes3A (s : State) : Result :=
  mapOperand (resBit 3) (.reg .a) s

/-- `RES 4,B`, 0xCB 0xA0 (R296). -/
@[simp] def execRes4B (s : State) : Result :=
  mapOperand (resBit 4) (.reg .b) s

/-- `RES 4,C`, 0xCB 0xA1 (R296). -/
@[simp] def execRes4C (s : State) : Result :=
  mapOperand (resBit 4) (.reg .c) s

/-- `RES 4,D`, 0xCB 0xA2 (R296). -/
@[simp] def execRes4D (s : State) : Result :=
  mapOperand (resBit 4) (.reg .d) s

/-- `RES 4,E`, 0xCB 0xA3 (R296). -/
@[simp] def execRes4E (s : State) : Result :=
  mapOperand (resBit 4) (.reg .e) s

/-- `RES 4,H`, 0xCB 0xA4 (R296). -/
@[simp] def execRes4H (s : State) : Result :=
  mapOperand (resBit 4) (.reg .h) s

/-- `RES 4,L`, 0xCB 0xA5 (R296). -/
@[simp] def execRes4L (s : State) : Result :=
  mapOperand (resBit 4) (.reg .l) s

/-- `RES 4,(HL)`, 0xCB 0xA6 (R296). -/
@[simp] def execRes4AtHl (s : State) : Result :=
  mapOperand (resBit 4) .atHl s

/-- `RES 4,A`, 0xCB 0xA7 (R296). -/
@[simp] def execRes4A (s : State) : Result :=
  mapOperand (resBit 4) (.reg .a) s

/-- `RES 5,B`, 0xCB 0xA8 (R296). -/
@[simp] def execRes5B (s : State) : Result :=
  mapOperand (resBit 5) (.reg .b) s

/-- `RES 5,C`, 0xCB 0xA9 (R296). -/
@[simp] def execRes5C (s : State) : Result :=
  mapOperand (resBit 5) (.reg .c) s

/-- `RES 5,D`, 0xCB 0xAA (R296). -/
@[simp] def execRes5D (s : State) : Result :=
  mapOperand (resBit 5) (.reg .d) s

/-- `RES 5,E`, 0xCB 0xAB (R296). -/
@[simp] def execRes5E (s : State) : Result :=
  mapOperand (resBit 5) (.reg .e) s

/-- `RES 5,H`, 0xCB 0xAC (R296). -/
@[simp] def execRes5H (s : State) : Result :=
  mapOperand (resBit 5) (.reg .h) s

/-- `RES 5,L`, 0xCB 0xAD (R296). -/
@[simp] def execRes5L (s : State) : Result :=
  mapOperand (resBit 5) (.reg .l) s

/-- `RES 5,(HL)`, 0xCB 0xAE (R296). -/
@[simp] def execRes5AtHl (s : State) : Result :=
  mapOperand (resBit 5) .atHl s

/-- `RES 5,A`, 0xCB 0xAF (R296). -/
@[simp] def execRes5A (s : State) : Result :=
  mapOperand (resBit 5) (.reg .a) s

/-- `RES 6,B`, 0xCB 0xB0 (R296). -/
@[simp] def execRes6B (s : State) : Result :=
  mapOperand (resBit 6) (.reg .b) s

/-- `RES 6,C`, 0xCB 0xB1 (R296). -/
@[simp] def execRes6C (s : State) : Result :=
  mapOperand (resBit 6) (.reg .c) s

/-- `RES 6,D`, 0xCB 0xB2 (R296). -/
@[simp] def execRes6D (s : State) : Result :=
  mapOperand (resBit 6) (.reg .d) s

/-- `RES 6,E`, 0xCB 0xB3 (R296). -/
@[simp] def execRes6E (s : State) : Result :=
  mapOperand (resBit 6) (.reg .e) s

/-- `RES 6,H`, 0xCB 0xB4 (R296). -/
@[simp] def execRes6H (s : State) : Result :=
  mapOperand (resBit 6) (.reg .h) s

/-- `RES 6,L`, 0xCB 0xB5 (R296). -/
@[simp] def execRes6L (s : State) : Result :=
  mapOperand (resBit 6) (.reg .l) s

/-- `RES 6,(HL)`, 0xCB 0xB6 (R296). -/
@[simp] def execRes6AtHl (s : State) : Result :=
  mapOperand (resBit 6) .atHl s

/-- `RES 6,A`, 0xCB 0xB7 (R296). -/
@[simp] def execRes6A (s : State) : Result :=
  mapOperand (resBit 6) (.reg .a) s

/-- `RES 7,B`, 0xCB 0xB8 (R296). -/
@[simp] def execRes7B (s : State) : Result :=
  mapOperand (resBit 7) (.reg .b) s

/-- `RES 7,C`, 0xCB 0xB9 (R296). -/
@[simp] def execRes7C (s : State) : Result :=
  mapOperand (resBit 7) (.reg .c) s

/-- `RES 7,D`, 0xCB 0xBA (R296). -/
@[simp] def execRes7D (s : State) : Result :=
  mapOperand (resBit 7) (.reg .d) s

/-- `RES 7,E`, 0xCB 0xBB (R296). -/
@[simp] def execRes7E (s : State) : Result :=
  mapOperand (resBit 7) (.reg .e) s

/-- `RES 7,H`, 0xCB 0xBC (R296). -/
@[simp] def execRes7H (s : State) : Result :=
  mapOperand (resBit 7) (.reg .h) s

/-- `RES 7,L`, 0xCB 0xBD (R296). -/
@[simp] def execRes7L (s : State) : Result :=
  mapOperand (resBit 7) (.reg .l) s

/-- `RES 7,(HL)`, 0xCB 0xBE (R296). -/
@[simp] def execRes7AtHl (s : State) : Result :=
  mapOperand (resBit 7) .atHl s

/-- `RES 7,A`, 0xCB 0xBF (R296). -/
@[simp] def execRes7A (s : State) : Result :=
  mapOperand (resBit 7) (.reg .a) s

/-- `SET 0,B`, 0xCB 0xC0 (R297). -/
@[simp] def execSet0B (s : State) : Result :=
  mapOperand (setBit 0) (.reg .b) s

/-- `SET 0,C`, 0xCB 0xC1 (R297). -/
@[simp] def execSet0C (s : State) : Result :=
  mapOperand (setBit 0) (.reg .c) s

/-- `SET 0,D`, 0xCB 0xC2 (R297). -/
@[simp] def execSet0D (s : State) : Result :=
  mapOperand (setBit 0) (.reg .d) s

/-- `SET 0,E`, 0xCB 0xC3 (R297). -/
@[simp] def execSet0E (s : State) : Result :=
  mapOperand (setBit 0) (.reg .e) s

/-- `SET 0,H`, 0xCB 0xC4 (R297). -/
@[simp] def execSet0H (s : State) : Result :=
  mapOperand (setBit 0) (.reg .h) s

/-- `SET 0,L`, 0xCB 0xC5 (R297). -/
@[simp] def execSet0L (s : State) : Result :=
  mapOperand (setBit 0) (.reg .l) s

/-- `SET 0,(HL)`, 0xCB 0xC6 (R297). -/
@[simp] def execSet0AtHl (s : State) : Result :=
  mapOperand (setBit 0) .atHl s

/-- `SET 0,A`, 0xCB 0xC7 (R297). -/
@[simp] def execSet0A (s : State) : Result :=
  mapOperand (setBit 0) (.reg .a) s

/-- `SET 1,B`, 0xCB 0xC8 (R297). -/
@[simp] def execSet1B (s : State) : Result :=
  mapOperand (setBit 1) (.reg .b) s

/-- `SET 1,C`, 0xCB 0xC9 (R297). -/
@[simp] def execSet1C (s : State) : Result :=
  mapOperand (setBit 1) (.reg .c) s

/-- `SET 1,D`, 0xCB 0xCA (R297). -/
@[simp] def execSet1D (s : State) : Result :=
  mapOperand (setBit 1) (.reg .d) s

/-- `SET 1,E`, 0xCB 0xCB (R297). -/
@[simp] def execSet1E (s : State) : Result :=
  mapOperand (setBit 1) (.reg .e) s

/-- `SET 1,H`, 0xCB 0xCC (R297). -/
@[simp] def execSet1H (s : State) : Result :=
  mapOperand (setBit 1) (.reg .h) s

/-- `SET 1,L`, 0xCB 0xCD (R297). -/
@[simp] def execSet1L (s : State) : Result :=
  mapOperand (setBit 1) (.reg .l) s

/-- `SET 1,(HL)`, 0xCB 0xCE (R297). -/
@[simp] def execSet1AtHl (s : State) : Result :=
  mapOperand (setBit 1) .atHl s

/-- `SET 1,A`, 0xCB 0xCF (R297). -/
@[simp] def execSet1A (s : State) : Result :=
  mapOperand (setBit 1) (.reg .a) s

/-- `SET 2,B`, 0xCB 0xD0 (R297). -/
@[simp] def execSet2B (s : State) : Result :=
  mapOperand (setBit 2) (.reg .b) s

/-- `SET 2,C`, 0xCB 0xD1 (R297). -/
@[simp] def execSet2C (s : State) : Result :=
  mapOperand (setBit 2) (.reg .c) s

/-- `SET 2,D`, 0xCB 0xD2 (R297). -/
@[simp] def execSet2D (s : State) : Result :=
  mapOperand (setBit 2) (.reg .d) s

/-- `SET 2,E`, 0xCB 0xD3 (R297). -/
@[simp] def execSet2E (s : State) : Result :=
  mapOperand (setBit 2) (.reg .e) s

/-- `SET 2,H`, 0xCB 0xD4 (R297). -/
@[simp] def execSet2H (s : State) : Result :=
  mapOperand (setBit 2) (.reg .h) s

/-- `SET 2,L`, 0xCB 0xD5 (R297). -/
@[simp] def execSet2L (s : State) : Result :=
  mapOperand (setBit 2) (.reg .l) s

/-- `SET 2,(HL)`, 0xCB 0xD6 (R297). -/
@[simp] def execSet2AtHl (s : State) : Result :=
  mapOperand (setBit 2) .atHl s

/-- `SET 2,A`, 0xCB 0xD7 (R297). -/
@[simp] def execSet2A (s : State) : Result :=
  mapOperand (setBit 2) (.reg .a) s

/-- `SET 3,B`, 0xCB 0xD8 (R297). -/
@[simp] def execSet3B (s : State) : Result :=
  mapOperand (setBit 3) (.reg .b) s

/-- `SET 3,C`, 0xCB 0xD9 (R297). -/
@[simp] def execSet3C (s : State) : Result :=
  mapOperand (setBit 3) (.reg .c) s

/-- `SET 3,D`, 0xCB 0xDA (R297). -/
@[simp] def execSet3D (s : State) : Result :=
  mapOperand (setBit 3) (.reg .d) s

/-- `SET 3,E`, 0xCB 0xDB (R297). -/
@[simp] def execSet3E (s : State) : Result :=
  mapOperand (setBit 3) (.reg .e) s

/-- `SET 3,H`, 0xCB 0xDC (R297). -/
@[simp] def execSet3H (s : State) : Result :=
  mapOperand (setBit 3) (.reg .h) s

/-- `SET 3,L`, 0xCB 0xDD (R297). -/
@[simp] def execSet3L (s : State) : Result :=
  mapOperand (setBit 3) (.reg .l) s

/-- `SET 3,(HL)`, 0xCB 0xDE (R297). -/
@[simp] def execSet3AtHl (s : State) : Result :=
  mapOperand (setBit 3) .atHl s

/-- `SET 3,A`, 0xCB 0xDF (R297). -/
@[simp] def execSet3A (s : State) : Result :=
  mapOperand (setBit 3) (.reg .a) s

/-- `SET 4,B`, 0xCB 0xE0 (R297). -/
@[simp] def execSet4B (s : State) : Result :=
  mapOperand (setBit 4) (.reg .b) s

/-- `SET 4,C`, 0xCB 0xE1 (R297). -/
@[simp] def execSet4C (s : State) : Result :=
  mapOperand (setBit 4) (.reg .c) s

/-- `SET 4,D`, 0xCB 0xE2 (R297). -/
@[simp] def execSet4D (s : State) : Result :=
  mapOperand (setBit 4) (.reg .d) s

/-- `SET 4,E`, 0xCB 0xE3 (R297). -/
@[simp] def execSet4E (s : State) : Result :=
  mapOperand (setBit 4) (.reg .e) s

/-- `SET 4,H`, 0xCB 0xE4 (R297). -/
@[simp] def execSet4H (s : State) : Result :=
  mapOperand (setBit 4) (.reg .h) s

/-- `SET 4,L`, 0xCB 0xE5 (R297). -/
@[simp] def execSet4L (s : State) : Result :=
  mapOperand (setBit 4) (.reg .l) s

/-- `SET 4,(HL)`, 0xCB 0xE6 (R297). -/
@[simp] def execSet4AtHl (s : State) : Result :=
  mapOperand (setBit 4) .atHl s

/-- `SET 4,A`, 0xCB 0xE7 (R297). -/
@[simp] def execSet4A (s : State) : Result :=
  mapOperand (setBit 4) (.reg .a) s

/-- `SET 5,B`, 0xCB 0xE8 (R297). -/
@[simp] def execSet5B (s : State) : Result :=
  mapOperand (setBit 5) (.reg .b) s

/-- `SET 5,C`, 0xCB 0xE9 (R297). -/
@[simp] def execSet5C (s : State) : Result :=
  mapOperand (setBit 5) (.reg .c) s

/-- `SET 5,D`, 0xCB 0xEA (R297). -/
@[simp] def execSet5D (s : State) : Result :=
  mapOperand (setBit 5) (.reg .d) s

/-- `SET 5,E`, 0xCB 0xEB (R297). -/
@[simp] def execSet5E (s : State) : Result :=
  mapOperand (setBit 5) (.reg .e) s

/-- `SET 5,H`, 0xCB 0xEC (R297). -/
@[simp] def execSet5H (s : State) : Result :=
  mapOperand (setBit 5) (.reg .h) s

/-- `SET 5,L`, 0xCB 0xED (R297). -/
@[simp] def execSet5L (s : State) : Result :=
  mapOperand (setBit 5) (.reg .l) s

/-- `SET 5,(HL)`, 0xCB 0xEE (R297). -/
@[simp] def execSet5AtHl (s : State) : Result :=
  mapOperand (setBit 5) .atHl s

/-- `SET 5,A`, 0xCB 0xEF (R297). -/
@[simp] def execSet5A (s : State) : Result :=
  mapOperand (setBit 5) (.reg .a) s

/-- `SET 6,B`, 0xCB 0xF0 (R297). -/
@[simp] def execSet6B (s : State) : Result :=
  mapOperand (setBit 6) (.reg .b) s

/-- `SET 6,C`, 0xCB 0xF1 (R297). -/
@[simp] def execSet6C (s : State) : Result :=
  mapOperand (setBit 6) (.reg .c) s

/-- `SET 6,D`, 0xCB 0xF2 (R297). -/
@[simp] def execSet6D (s : State) : Result :=
  mapOperand (setBit 6) (.reg .d) s

/-- `SET 6,E`, 0xCB 0xF3 (R297). -/
@[simp] def execSet6E (s : State) : Result :=
  mapOperand (setBit 6) (.reg .e) s

/-- `SET 6,H`, 0xCB 0xF4 (R297). -/
@[simp] def execSet6H (s : State) : Result :=
  mapOperand (setBit 6) (.reg .h) s

/-- `SET 6,L`, 0xCB 0xF5 (R297). -/
@[simp] def execSet6L (s : State) : Result :=
  mapOperand (setBit 6) (.reg .l) s

/-- `SET 6,(HL)`, 0xCB 0xF6 (R297). -/
@[simp] def execSet6AtHl (s : State) : Result :=
  mapOperand (setBit 6) .atHl s

/-- `SET 6,A`, 0xCB 0xF7 (R297). -/
@[simp] def execSet6A (s : State) : Result :=
  mapOperand (setBit 6) (.reg .a) s

/-- `SET 7,B`, 0xCB 0xF8 (R297). -/
@[simp] def execSet7B (s : State) : Result :=
  mapOperand (setBit 7) (.reg .b) s

/-- `SET 7,C`, 0xCB 0xF9 (R297). -/
@[simp] def execSet7C (s : State) : Result :=
  mapOperand (setBit 7) (.reg .c) s

/-- `SET 7,D`, 0xCB 0xFA (R297). -/
@[simp] def execSet7D (s : State) : Result :=
  mapOperand (setBit 7) (.reg .d) s

/-- `SET 7,E`, 0xCB 0xFB (R297). -/
@[simp] def execSet7E (s : State) : Result :=
  mapOperand (setBit 7) (.reg .e) s

/-- `SET 7,H`, 0xCB 0xFC (R297). -/
@[simp] def execSet7H (s : State) : Result :=
  mapOperand (setBit 7) (.reg .h) s

/-- `SET 7,L`, 0xCB 0xFD (R297). -/
@[simp] def execSet7L (s : State) : Result :=
  mapOperand (setBit 7) (.reg .l) s

/-- `SET 7,(HL)`, 0xCB 0xFE (R297). -/
@[simp] def execSet7AtHl (s : State) : Result :=
  mapOperand (setBit 7) .atHl s

/-- `SET 7,A`, 0xCB 0xFF (R297). -/
@[simp] def execSet7A (s : State) : Result :=
  mapOperand (setBit 7) (.reg .a) s

end Sys2Proof.Machine
end

