-- ==== Sys2Proof/Machine/System.lean ====
section
/-! DEFINITION. System instructions, the prefix row and the illegal opcodes (spec/45_system.md R331 to R337). -/

namespace Sys2Proof.Machine

/-- `emit IllegalOpcodeLogged(op, PC0)`, PC0 the byte's address; nothing else changes (R337). -/
def logIllegal (op : Byte) (s : State) : Result := .next { s with log := (op, s.pc - 1) :: s.log }

/-- The CB row of the second byte by its fields x, y, z (R123, R124, R130, R285): the rule of that row
executes (R336). Log entry 1. -/
def selectCb (b1 : Byte) (s : State) : Result :=
  let y := b1.extractLsb' 3 3
  let o := r8Code (b1.extractLsb' 0 3)
  match b1.extractLsb' 6 2 with
  | 0 => rotateOperand (rotCode y) o s
  | 1 => bitOperand y.toNat o s
  | 2 => mapOperand (resBit y.toNat) o s
  | 3 => mapOperand (setBit y.toNat) o s

/-- `NOP`, 0x00 (R331). -/
@[simp] def execNop (s : State) : Result :=
  .next s

/-- `STOP`, 0x10 (R333). -/
@[simp] def execStop (s : State) : Result :=
  .refused (.stopNotModelled (s.pc - 1))

/-- `HALT`, 0x76 (R332). -/
@[simp] def execHalt (s : State) : Result :=
  .next { s with halted := true }

/-- `PREFIX CB`, 0xCB (R336). -/
@[simp] def execPrefixCb (n : Byte) (s : State) : Result :=
  selectCb n s

/-- `ILLEGAL_D3`, 0xD3 (R337). -/
@[simp] def execIllegalD3 (s : State) : Result :=
  logIllegal 0xD3 s

/-- `ILLEGAL_DB`, 0xDB (R337). -/
@[simp] def execIllegalDB (s : State) : Result :=
  logIllegal 0xDB s

/-- `ILLEGAL_DD`, 0xDD (R337). -/
@[simp] def execIllegalDD (s : State) : Result :=
  logIllegal 0xDD s

/-- `ILLEGAL_E3`, 0xE3 (R337). -/
@[simp] def execIllegalE3 (s : State) : Result :=
  logIllegal 0xE3 s

/-- `ILLEGAL_E4`, 0xE4 (R337). -/
@[simp] def execIllegalE4 (s : State) : Result :=
  logIllegal 0xE4 s

/-- `ILLEGAL_EB`, 0xEB (R337). -/
@[simp] def execIllegalEB (s : State) : Result :=
  logIllegal 0xEB s

/-- `ILLEGAL_EC`, 0xEC (R337). -/
@[simp] def execIllegalEC (s : State) : Result :=
  logIllegal 0xEC s

/-- `ILLEGAL_ED`, 0xED (R337). -/
@[simp] def execIllegalED (s : State) : Result :=
  logIllegal 0xED s

/-- `DI`, 0xF3 (R334). -/
@[simp] def execDi (s : State) : Result :=
  .next { s with ime := false }

/-- `ILLEGAL_F4`, 0xF4 (R337). -/
@[simp] def execIllegalF4 (s : State) : Result :=
  logIllegal 0xF4 s

/-- `EI`, 0xFB (R335). -/
@[simp] def execEi (s : State) : Result :=
  .next { s with ime := true }

/-- `ILLEGAL_FC`, 0xFC (R337). -/
@[simp] def execIllegalFC (s : State) : Result :=
  logIllegal 0xFC s

/-- `ILLEGAL_FD`, 0xFD (R337). -/
@[simp] def execIllegalFD (s : State) : Result :=
  logIllegal 0xFD s

end Sys2Proof.Machine
end

