-- ==== Sys2Proof/Machine/Cpu.lean ====
section
/-! DEFINITION. The CPU tick: halt, stall, interrupt test, fetch-decode-execute
(spec/60_exceptions.md R409 to R416, R420 to R424). -/

namespace Sys2Proof.Machine

/-- `fetch8()` (spec/00_scope.md R15). -/
def fetch8 (s : State) : Except Fault (Byte × State) :=
  match memRead s.pc s with
  | .ok b => .ok (b, { s with pc := s.pc + 1 })
  | .error f => .error f

/-- `n` bytes fetched one after another (R121). -/
def fetchBytes (n : Nat) (s : State) : Except Fault (List Byte × State) :=
  match n with
  | 0 => .ok ([], s)
  | n + 1 =>
    match fetch8 s with
    | .error f => .error f
    | .ok (b, s) =>
      match fetchBytes n s with
      | .error f => .error f
      | .ok (r, s) => .ok (b :: r, s)

/-- Fetch and decode one instruction: the opcode, then the bytes its row has (R134, R412). All of them are
read before any effect of the row (R104), and PC ends past them. -/
def fetchInstr (s : State) : Except Fault (Instr × State) :=
  match fetch8 s with
  | .error f => .error f
  | .ok (op, s) =>
    match fetchBytes (operandCount op) s with
    | .error f => .error f
    | .ok (rest, s) =>
      match decode (op :: rest) with
      | .ok i => .ok (i, s)
      | .error _ => .error (.unrecognizedOpcode (opcodeKey (op :: rest)) s.sp s.pc)

/-- The end of step 4 and step 5: `stall <- max(0, cost - FETCH_TICKS)`, and `executed` is true
(R412, R413, R415). -/
def finishRow (i : Instr) (t : Bool) (s : State) : State :=
  { s with stall := costTaken s.params i t - s.params.fetchTicks.val, executed := true }

/-- Step 4, fetch, decode and execute (R412). -/
def fetchExecute (s : State) : Result :=
  match fetchInstr s with
  | .error f => .fault f
  | .ok (i, s) => andThen (exec i s) fun t => .next (finishRow i (taken i s) t)

/-- Whether source `i` is pending and enabled (R421). -/
def isRequested (s : State) (i : Source) : Bool := (s.ifReg &&& s.ieReg).getLsbD (sourceBit i)

/-- The source step 3 dispatches: the first pending and enabled one, if IME is set (R411, R423). -/
def interruptToTake (s : State) : Option Source :=
  if s.ime then [Source.vblank, .stat, .timer, .serial, .joypad].find? (isRequested s) else none

/-- Step 3 and what follows it: a dispatch with `INT_DISPATCH_TICKS > 0` ends the tick, otherwise step 4 runs in
the same tick (R411, R424). -/
def interruptStep (s : State) : Result :=
  match interruptToTake s with
  | none => fetchExecute s
  | some i =>
    andThen (takeInterrupt i s) fun s =>
      if s.params.intDispatchTicks > 0 then
        .next { s with stall := s.params.intDispatchTicks - 1, executed := false }
      else fetchExecute s

/-- Step 2, stall (R410). -/
def stallStep (s : State) : Result :=
  if s.stall > 0 then .next { s with stall := s.stall - 1, executed := false } else interruptStep s

/-- `cpu_tick()`: step 1, halt (R409), then steps 2 to 5. -/
def cpuTick (s : State) : Result :=
  if s.halted then
    if s.ieReg &&& s.ifReg = 0 then .next { s with executed := false }
    else stallStep { s with halted := false }
  else stallStep s

end Sys2Proof.Machine
end

