-- ==== Sys2Proof/Machine/Dma.lean ====
section
/-! DEFINITION. The Memory tick: one DMA byte if a copy is in flight (spec/20_memory.md R91). -/

namespace Sys2Proof.Machine

/-- The copy of one byte `b`: a direct store into OAM, the cursor's increment, the end after 160 bytes (R91). -/
def dmaCopyByte (b : Byte) (s : State) : State :=
  let next := s.dmaCursor + 1
  { s.poke (0xFE00 + s.dmaCursor.toNat % 0x100) b with
    dmaCursor := next
    dmaActive := !decide (next.toNat % 0x100 = 0xA0) }

/-- `memory_tick()` (R91). -/
def memoryTick (s : State) : Result :=
  if s.dmaActive then readThen s.dmaCursor s fun b => .next (dmaCopyByte b s) else .next s

end Sys2Proof.Machine
end

