-- ==== Sys2Proof/Machine/Environment.lean ====
section
/-! DEFINITION. Phase 3 of a tick: the input collaborator and the timer and serial collaborators, whose choices are
the tick's draw (spec/60_exceptions.md R401, R457, R458; log entry 4). -/

namespace Sys2Proof.Machine

/-- The address of a register the environment may store to (R458). -/
def envAddress (r : EnvReg) : Nat :=
  match r with
  | .sb => 0xFF01
  | .sc => 0xFF02
  | .div => 0xFF04
  | .tima => 0xFF05
  | .tma => 0xFF06
  | .tac => 0xFF07

/-- `hi[0x7F0F] <- hi[0x7F0F] | m`: request interrupts (R434 to R436, R457, R458). -/
def requestInterrupt (m : Byte) (s : State) : State := s.poke 0xFF0F (s.ifReg ||| m)

/-- `input_phase(d.input)` (R457). -/
def inputPhase (d : Option (BitVec 4)) (s : State) : State :=
  match d with
  | none => s
  | some n =>
    if n.zeroExtend 8 = s.peek 0xFF00 &&& 0x0F then s
    else requestInterrupt 0x10 (s.poke 0xFF00 ((s.peek 0xFF00 &&& 0xF0) ||| n.zeroExtend 8))

/-- One action of `d.env` (R458). -/
def envAction (e : EnvAction) (s : State) : State :=
  match e with
  | .store r v => s.poke (envAddress r) v
  | .requestTimer => requestInterrupt 0x04 s
  | .requestSerial => requestInterrupt 0x08 s

/-- `env_phase(d.env)`: the actions in the order listed (R458). -/
def envPhase (d : List EnvAction) (s : State) : State :=
  match d with
  | [] => s
  | e :: r => envPhase r (envAction e s)

/-- The draw of the tick that runs next: the quiet draw where none is listed (R401, R405). -/
def State.nextDraw (s : State) : Draw := s.draws.headD {}

/-- Phase 3: the tick's draw is used up (R401). -/
def collaborators (s : State) : State :=
  { envPhase s.nextDraw.env (inputPhase s.nextDraw.input s) with draws := s.draws.tail }

end Sys2Proof.Machine
end

