-- ==== Sys2Proof/Machine/Ppu.lean ====
section
/-! DEFINITION. The display timing unit and the scanline synthesis (spec/60_exceptions.md R430 to R440). -/

namespace Sys2Proof.Machine

/-- Bit `k` of LCDC (R52). -/
def lcdcBit (s : State) (k : Nat) : Bool := (s.peek 0xFF40).getLsbD k

/-- Bit `k` of STAT (R53). -/
def statBit (s : State) (k : Nat) : Bool := (s.peek 0xFF41).getLsbD k

/-- The enable bit of STAT for an entry to mode `m`; mode 3 has none (R435). -/
def modeEnableBit (m : Nat) : Option Nat := if m < 3 then some (3 + m) else none

/-- `enter_mode(m)`: STAT[1:0], then the request of R435 (R432). -/
def enterMode (m : Nat) (s : State) : State :=
  let s := s.poke 0xFF41 ((s.peek 0xFF41 &&& 0xFC) ||| BitVec.ofNat 8 m)
  match modeEnableBit m with
  | none => s
  | some k => if statBit s k then requestInterrupt 0x02 s else s

/-- `coincidence()`: STAT[2] and the request of R436 (R433). -/
def coincidence (s : State) : State :=
  if s.peek 0xFF44 = s.peek 0xFF45 then
    let s := s.poke 0xFF41 (s.peek 0xFF41 ||| 0x04)
    if !s.params.lycIrqRequiresEnable || statBit s 6 then requestInterrupt 0x02 s else s
  else s.poke 0xFF41 (s.peek 0xFF41 &&& 0xFB)

/-- `vblank()` (R434). -/
def vblank (s : State) : State :=
  { requestInterrupt 0x01 s with frames := s.frames + 1, frameReady := true }

/-- Byte `k` of OAM entry `i`: Y, X, tile, attributes (R437). -/
def oamByte (s : State) (i : Fin 40) (k : Nat) : Byte := s.peek (0xFE00 + 4 * i.val + k)

/-- The object height `h` (R437). -/
def objHeight (tall : Bool) : Nat := if tall then 16 else 8

/-- Whether entry `i` covers line `ly` at height `h` (R437). -/
def coversLine (s : State) (ly h : Nat) (i : Fin 40) : Bool :=
  decide ((oamByte s i 0).toNat ≤ ly + 16) && decide (ly + 16 < (oamByte s i 0).toNat + h)

/-- `oam_search(ly)`: the first 10 entries, in index order, that cover the line (R437). -/
def oamSearch (ly : Nat) (s : State) : State :=
  let tall := lcdcBit s 2
  { s with
    spriteTall := tall
    sprites := ((List.finRange 40).filter (coversLine s ly (objHeight tall))).take 10 }

/-- `(pal >> (2 * ci)) & 3`: a palette's shade for a colour index (R58, R439). -/
def paletteShade (pal : Byte) (ci : Shade) : Shade := (pal >>> (2 * ci.toNat)).setWidth 2

/-- Whether the window applies at `x` on line `ly` (R59, R439). -/
def windowApplies (s : State) (x ly : Nat) : Bool :=
  lcdcBit s 5 && decide (x + 7 ≥ (s.peek 0xFF4B).toNat) && decide (ly ≥ (s.peek 0xFF4A).toNat)

/-- The address of tile `t`'s data: unsigned index from 0x8000, or signed index from 0x9000 (R439). -/
def tileBase (unsigned : Bool) (t : Byte) : Nat :=
  if unsigned then 0x8000 + 16 * t.toNat else (0x9000 + 16 * t.toInt).toNat

/-- The colour index of bit `b` of the row whose low byte is at `a` (R439). -/
def rowColour (lo hi : Byte) (b : Nat) : Shade := BitVec.ofBool (hi.getLsbD b) ++ BitVec.ofBool (lo.getLsbD b)

/-- The colour index of pixel (`px`, `py`) of the tile map at `map` (R439). -/
def mapPixel (s : State) (map px py : Nat) : Shade :=
  let base := tileBase (lcdcBit s 4) (s.peek (map + py / 8 * 32 + px / 8)) + 2 * (py % 8)
  rowColour (s.peek base) (s.peek (base + 1)) (7 - px % 8)

/-- `bg_pixel(x, ly)` (R439). -/
def bgPixel (s : State) (x ly : Nat) : Shade :=
  if !lcdcBit s 0 then 0
  else if windowApplies s x ly then
    mapPixel s (if lcdcBit s 6 then 0x9C00 else 0x9800) (x + 7 - (s.peek 0xFF4B).toNat) s.windowLine.toNat
  else
    mapPixel s (if lcdcBit s 3 then 0x9C00 else 0x9800)
      ((x + (s.peek 0xFF43).toNat) % 256) ((ly + (s.peek 0xFF42).toNat) % 256)

/-- `shade_bg(ci)` (R439). -/
def shadeBg (s : State) (ci : Shade) : Shade := paletteShade (s.peek 0xFF47) ci

/-- Whether sprite `i` covers column `x`: `X_i - 8 <= x < X_i` (R440). -/
def coversColumn (s : State) (x : Nat) (i : Fin 40) : Bool :=
  decide ((oamByte s i 1).toNat ≤ x + 8) && decide (x < (oamByte s i 1).toNat)

/-- Put `i` before the first sprite whose X is not smaller, so equal X keep their order (R440). -/
def insertByX (s : State) (i : Fin 40) (l : List (Fin 40)) : List (Fin 40) :=
  match l with
  | [] => [i]
  | j :: r => if (oamByte s i 1).toNat ≤ (oamByte s j 1).toNat then i :: j :: r else j :: insertByX s i r

/-- The sprites by X ascending, then by scan order (R440). -/
def sortByX (s : State) (l : List (Fin 40)) : List (Fin 40) :=
  match l with
  | [] => []
  | i :: r => insertByX s i (sortByX s r)

/-- The address of the row of sprite `i` on line `ly`, as the rule computes it over the integers (R440). An OAM
entry changed after the search can give a row outside the sprite. Log entry 12. -/
def spriteRowAddress (s : State) (ly : Nat) (i : Fin 40) : Word :=
  let h : Int := objHeight s.spriteTall
  let r : Int := (ly : Int) + 16 - (oamByte s i 0).toNat
  let r := if (oamByte s i 3).getLsbD 6 then h - 1 - r else r
  let tile := if s.spriteTall then oamByte s i 2 &&& 0xFE else oamByte s i 2
  BitVec.ofInt 16 (0x8000 + 16 * (tile.toNat : Int) + 2 * r)

/-- The bit of sprite `i`'s row shown at column `x`, with its X flip (R440). -/
def spriteColumnBit (s : State) (x : Nat) (i : Fin 40) : Nat :=
  let c := x + 8 - (oamByte s i 1).toNat
  let c := if (oamByte s i 3).getLsbD 5 then 7 - c else c
  7 - c

/-- The loop over the candidates in priority order: the shade of the first non-transparent one, or the
background's where its priority bit yields to a non-zero colour index (R440). -/
def spriteShade (s : State) (x ly : Nat) (ci : Shade) (l : List (Fin 40)) : Except Fault Shade :=
  match l with
  | [] => .ok (shadeBg s ci)
  | i :: r =>
    match memRead (spriteRowAddress s ly i + 1) s with
    | .error f => .error f
    | .ok hi =>
      match memRead (spriteRowAddress s ly i) s with
      | .error f => .error f
      | .ok lo =>
        let c := rowColour lo hi (spriteColumnBit s x i)
        if c = 0 then spriteShade s x ly ci r
        else if !(oamByte s i 3).getLsbD 7 || ci == 0 then
          .ok (paletteShade (s.peek (if (oamByte s i 3).getLsbD 4 then 0xFF49 else 0xFF48)) c)
        else .ok (shadeBg s ci)

/-- `pixel(x, ly)`: the shade stored at `frame[ly][x]` (R440). -/
def pixelShade (s : State) (x ly : Nat) : Except Fault Shade :=
  let ci := bgPixel s x ly
  if lcdcBit s 1 then spriteShade s x ly ci (sortByX s (s.sprites.filter (coversColumn s x)))
  else .ok (shadeBg s ci)

/-- The fault of the first pixel, x ascending, whose sprite data lies in an absent ROM bank. Log entry 12. -/
def firstPixelFault (s : State) (ly : Nat) (xs : List Nat) : Option Fault :=
  match xs with
  | [] => none
  | x :: r =>
    match pixelShade s x ly with
    | .error f => some f
    | .ok _ => firstPixelFault s ly r

/-- The 160 shades of line `ly` (R439). -/
def lineShades (s : State) (ly : Nat) : Vector Shade 160 :=
  Vector.ofFn fun x =>
    match pixelShade s x.val ly with
    | .ok c => c
    | .error _ => 0

/-- Whether the window was drawn on line `ly` (R438). -/
def windowDrawn (s : State) (ly : Nat) : Bool :=
  lcdcBit s 5 && decide (ly ≥ (s.peek 0xFF4A).toNat) && decide ((s.peek 0xFF4B).toNat ≤ 166)

/-- `render_line(ly)` and the window-line counter after it (R438, R439). -/
def renderLine (ly : Nat) (s : State) : Result :=
  match firstPixelFault s ly (List.range 160) with
  | some f => .fault f
  | none =>
    .next { s with
      frame := s.frame.setIfInBounds ly (lineShades s ly)
      windowLine := if windowDrawn s ly then s.windowLine + 1 else s.windowLine }

/-- `end_of_line(ly)` (R431, R438). -/
def endOfLine (ly : Byte) (s : State) : State :=
  let next : Byte := if ly = 153 then 0 else ly + 1
  let s := s.poke 0xFF44 next
  if next = 0 then { s with windowLine := 0 } else s

/-- What the PPU does at the dot it stands at (R430). -/
def ppuAtDot (ly : Nat) (s : State) : Result :=
  if s.dot = 0 then
    if ly < 144 then .next (enterMode 2 (oamSearch ly (coincidence s)))
    else if ly = 144 then .next (vblank (enterMode 1 (coincidence s)))
    else .next (coincidence s)
  else if s.dot = 80 ∧ ly < 144 then renderLine ly (enterMode 3 s)
  else if s.dot = 252 ∧ ly < 144 then .next (enterMode 0 s)
  else .next s

/-- The dot counter's step; `ly` is the line read at the start of the tick (R431). -/
def advanceDot (ly : Byte) (s : State) : State :=
  if s.dot + 1 = 456 then endOfLine ly { s with dot := 0 } else { s with dot := s.dot + 1 }

/-- `ppu_tick()` (R430). -/
def ppuTick (s : State) : Result :=
  andThen (ppuAtDot (s.peek 0xFF44).toNat { s with frameReady := false }) fun t =>
    .next (advanceDot (s.peek 0xFF44) t)

end Sys2Proof.Machine
end

