-- ==== Sys2Proof/Machine/Console.lean ====
section
/-! DEFINITION. The console tick: every unit once, in the fixed order (spec/60_exceptions.md R401, R402, R460). -/

namespace Sys2Proof.Machine

/-- Phase 5: the frame goes to the display in a tick with `frame_ready` (R401, R456). -/
def presentFrame (s : State) : State :=
  if s.frameReady then { s with presented := s.frame :: s.presented } else s

/-- Phases 3 to 6, after the CPU's: collaborators, PPU, display; the debugger changes nothing (R401, R403). -/
def laterPhases (s : State) : Result :=
  andThen (ppuTick (collaborators s)) fun s => .next (presentFrame s)

/-- `console_tick` (R401). A quit asked for at the tick's boundary ends the run before it (R460). -/
def consoleTick (s : State) : Result :=
  if s.nextDraw.quit then .refused .quit
  else andThen (memoryTick s) fun s => andThen (cpuTick s) laterPhases

end Sys2Proof.Machine
end

