-- ==== Sys2Proof/Machine/Cartridge.lean ====
section
/-! DEFINITION. How a machine is launched: the cartridge's ROM, HI_INIT, the parameters and the draws
(spec/00_scope.md R11, spec/20_memory.md R82, spec/60_exceptions.md R455, spec/70_reset_and_hazards.md R503), and
the placing of one instruction where the next step fetches. -/

namespace Sys2Proof.Machine

/-- The cells of the bytes from address `n` on: no 0x00 byte, and none of the mirror's addresses, which are
no storage of their own (R87). -/
def imageCells (n : Nat) (bytes : List Byte) : List Host.Cell :=
  match bytes with
  | [] => []
  | b :: r =>
    if b = 0x00 ∨ (0xE000 ≤ n ∧ n ≤ 0xFDFF) then imageCells (n + 1) r else (n, b) :: imageCells (n + 1) r

/-- The machine after reset with the ROM image `rom`, the initial high region `hiInit` (a byte it lacks is
0x00), the parameters and the draws; an image whose length is not a positive multiple of 0x4000 is a
malformed cartridge (R455). Only banks 0 and 1 of an image can be reached (R82). -/
def launch (rom hiInit : List Byte) (p : Params) (draws : List Draw) : Result :=
  if rom.length = 0 ∨ rom.length % 0x4000 ≠ 0 then .fault (.malformedCartridge rom.length)
  else .next { State.reset with
    romBanks := rom.length / 0x4000
    mem := imageCells 0 (rom.take 0x8000) ++ imageCells 0x8000 (hiInit.take 0x8000)
    params := p
    draws := draws }

/-- The title the cartridge collaborator reports: the image's bytes 0x0134 to 0x0143, which no rule of the block
reads (R455). -/
def cartridgeTitle (rom : List Byte) : List Byte := (rom.drop 0x0134).take 16

/-- The cell a fetch at `a` reads (R84, R87). -/
def cellOf (a : Word) : Nat := if a.toNat < 0x8000 then romIndex a else (mirror a).toNat

/-- `bytes` placed from address `a` on, as the fetch meets them (R121). -/
def placeBytes (a : Word) (bytes : List Byte) (s : State) : State :=
  match bytes with
  | [] => s
  | b :: r => placeBytes (a + 1) r (s.poke (cellOf a) b)

/-- The state whose next step fetches and runs `bytes` at PC: the bytes in place, the CPU at an instruction
boundary with no dispatch, no DMA byte before the fetch, no quit, and the ROM banks the fetch needs. Where
those conditions hold already, only the bytes change. -/
def placeInstruction (bytes : List Byte) (s : State) : State :=
  placeBytes s.pc bytes { s with
    halted := false
    stall := 0
    ime := s.ime && (interruptToTake s).isNone
    dmaActive := false
    romBanks := max s.romBanks 2
    draws := if s.nextDraw.quit then { s.nextDraw with quit := false } :: s.draws.tail else s.draws }

end Sys2Proof.Machine
end

