-- ==== Sys2Proof/Machine/Step.lean ====
section
/-! DEFINITION. The machine's step is one console tick (spec/60_exceptions.md R401). -/

namespace Sys2Proof.Machine

/-- One console tick. -/
def step (s : State) : Host.Outcome State Fault Refusal := consoleTick s

/-- `s` with the instruction of the opcode table's bits `w` where the next step fetches. -/
def State.withFetchWord (s : State) (nbits w : Nat) : State := placeInstruction (tableBytes nbits w) s

end Sys2Proof.Machine
end

