-- ==== Sys2Proof/Machine/Debug.lean ====
section
/-! DEFINITION. The debug collaborator's requests as functions of the state: they read copies and change nothing
(spec/60_exceptions.md R403, R459, R460). -/

namespace Sys2Proof.Machine

/-- ReadRegisterSnapshot (R459). -/
def readRegisterSnapshot (s : State) : RegSnapshot := s.snapshot

/-- A debugger's read: 0xFF where the block's read would fault (R459, D36). -/
def debugRead (a : Word) (s : State) : Byte :=
  match memRead a s with
  | .ok v => v
  | .error _ => 0xFF

/-- ReadNextThreeBytesAtPC (R459). -/
def readNextThreeBytesAtPc (s : State) : List Byte :=
  [debugRead s.pc s, debugRead (s.pc + 1) s, debugRead (s.pc + 2) s]

/-- The state in which step 4 of the next tick fetches its opcode, a dispatch of step 3 done, its push included;
none if that tick does not run (a quit) or does not reach step 4 (R409 to R412, R422, R460). -/
def stateAtFetch (s : State) : Option State :=
  if s.nextDraw.quit then none
  else
    match memoryTick s with
    | .next m =>
      if m.halted ∧ m.ieReg &&& m.ifReg = 0 then none
      else if m.stall > 0 then none
      else
        let u := { m with halted := false }
        match interruptToTake u with
        | none => some u
        | some i =>
          match takeInterrupt i u with
          | .next v => if v.params.intDispatchTicks > 0 then none else some v
          | _ => none
    | _ => none

/-- SetBreakpointOnOpcodeByte(b): whether the console stops before the next tick, the one whose step 4 would fetch
`b` at PC (R459, D36). A fetch that would fault fetches no byte. -/
def breaksOnOpcode (b : Byte) (s : State) : Bool :=
  match stateAtFetch s with
  | none => false
  | some t =>
    match fetch8 t with
    | .ok (v, _) => v == b
    | .error _ => false

/-- StepOneInstruction: ticks until one has executed an instruction, at most `fuel` of them (R459). DESIGN CHOICE
where the spec is silent: stepping tests no breakpoint. Log entry 19. -/
def stepOneInstruction (fuel : Nat) (s : State) : Result :=
  match fuel with
  | 0 => .next s
  | n + 1 => andThen (consoleTick s) fun t => if t.executed then .next t else stepOneInstruction n t

/-- ResumeContinuous with the breakpoint set, if one is: ticks until the console stops before one that would fetch
the byte, at most `fuel` of them (R459, R460). DESIGN CHOICE where the spec gives request names only: at most one
opcode breakpoint is set, and from a state already stopped at it the console stops again at once, with no tick run.
Log entry 19. -/
def resumeContinuous (breakpoint : Option Byte) (fuel : Nat) (s : State) : Result :=
  match fuel with
  | 0 => .next s
  | n + 1 =>
    if breakpoint.any fun b => breaksOnOpcode b s then .next s
    else andThen (consoleTick s) (resumeContinuous breakpoint n)

end Sys2Proof.Machine
end

