-- ==== Sys2Proof/Safety.lean ====
section
/-! DEFINITION. What counts as a good state and a safe run, in the terms the statements use. -/

namespace Sys2Proof.Machine

/-- A cell's address is storage: below 0x10000, not in the mirror window (R87), and inside the image where it
is a ROM address (R82). -/
abbrev Storage (banks n : Nat) : Prop :=
  n < 0x10000 ∧ ¬(0xE000 ≤ n ∧ n ≤ 0xFDFF) ∧ (n < 0x8000 → n < banks * 0x4000)

/-- What every state of a run satisfies: memory in canonical form over real storage, F[3:0] = 0 (R33), dot at
most 455 (R63), at most 10 sprites (R63), a positive number of ROM banks (R82), a DMA in flight inside its
160 bytes (R91), and, under the default parameters, a stall of at most 23 ticks (R46). -/
structure State.Inv (s : State) : Prop where
  memWf : Memory.wf s.mem
  memStorage : ∀ c ∈ s.mem, Storage s.romBanks c.1
  flagsLow : s.af &&& 0x000F = 0
  dotLe : s.dot ≤ 455
  spritesLe : s.sprites.length ≤ 10
  banksPos : 1 ≤ s.romBanks
  dmaInside : s.dmaActive = true → s.dmaCursor.toNat % 0x100 < 0xA0
  stallLe : s.params = {} → s.stall ≤ 23

/-- A read of `a` does not fault (R84). -/
def Readable (s : State) (a : Word) : Prop := 0x8000 ≤ a.toNat ∨ a.toNat < s.romBanks * 0x4000

/-- A write of `a` does not fault (R86). -/
def Writable (s : State) (a : Word) : Prop :=
  0x8000 ≤ a.toNat ∨ s.params.romWritePolicy = .ignore ∨ a.toNat < s.romBanks * 0x4000

/-- The next CPU phase reaches step 4 at once: not halted, no stall, no dispatch (R409 to R411). -/
def AtBoundary (s : State) : Prop := s.halted = false ∧ s.stall = 0 ∧ interruptToTake s = none

end Sys2Proof.Machine
end

