-- ==== Sys2Proof/Certificates/Slice0/Obligations.lean ====
section
/-! DEFINITION. The statements for the provers, each from the rules of spec/ its docstring names, and the vocabulary
they are written in: the rows of the opcode table by family, what a write leaves, what a form leaves unchanged. -/

namespace Sys2Proof.Claims

open Sys2Proof.Machine

/-- The bytes decode to `i`, and the row costs `cost` ticks when taken and `notTaken` otherwise under the default
parameters (R131, R416). -/
def Row (bytes : List Byte) (i : Instr) (cost notTaken : Nat) : Prop :=
  decode bytes = .ok i ∧ costTaken {} i true = cost ∧ costTaken {} i false = notTaken

/-- What a read of one byte gives: none where the image lacks the bank (R84). -/
def byteAt (a : Word) (s : State) : Option Byte := (memRead a s).toOption

/-- The 8-bit register `r` holds `v`; the other seven registers, all of memory and all other state are as before. -/
structure RegWritten (r : Reg8) (v : Byte) (s t : State) : Prop where
  frame : t = { s with af := t.af, bc := t.bc, de := t.de, hl := t.hl }
  value : t.reg8 r = v
  others : ∀ q, q ≠ r → t.reg8 q = s.reg8 q

/-- The 8-bit register `r` holds `v` and the flags are `g`; all else is as before. -/
structure RegFlagsWritten (r : Reg8) (v : Byte) (g : Flags) (s t : State) : Prop where
  frame : t = { s with af := t.af, bc := t.bc, de := t.de, hl := t.hl }
  value : t.reg8 r = v
  flags : t.flags = g
  others : ∀ q, q ≠ r → q ≠ .f → t.reg8 q = s.reg8 q

/-- The flags are `g`; A, every other register, all of memory and all other state are as before. -/
structure FlagsWritten (g : Flags) (s t : State) : Prop where
  frame : t = { s with af := t.af }
  acc : t.reg8 .a = s.reg8 .a
  flags : t.flags = g

/-- The 16-bit register `r` (BC, DE, HL or SP) holds `w`; AF, PC, the others, all of memory and all other state are as
before. -/
structure PairWritten (r : Reg16) (w : Word) (s t : State) : Prop where
  frame : t = { s with bc := t.bc, de := t.de, hl := t.hl, sp := t.sp }
  value : t.reg16 r = w
  others : ∀ q, q ≠ r → t.reg16 q = s.reg16 q

/-- What `MemWrite(a, 1, v)` leaves (R85 to R90). -/
structure ByteStored (a : Word) (v : Byte) (s t : State) : Prop where
  /-- Registers, CPU state and every unit but the DMA engine are as before. -/
  whole : t = { s with mem := t.mem, dmaActive := t.dmaActive, dmaCursor := t.dmaCursor }
  /-- Every byte that is not the stored one reads as before. -/
  frame : ∀ b, mirror b ≠ mirror a → byteAt b t = byteAt b s
  /-- A plain address holds `v`, at every address that reaches it (R87, R88). -/
  plain : 0x8000 ≤ a.toNat → a ≠ 0xFF00 → a ≠ 0xFF46 → ∀ b, mirror b = mirror a → byteAt b t = some v
  /-- 0xFF00 takes the high nibble and keeps the low one (R89). -/
  joyp : a = 0xFF00 → byteAt a t = some ((v &&& 0xF0) ||| (s.peek 0xFF00 &&& 0x0F))
  /-- 0xFF46 starts a copy from v * 0x100 and stores nothing (R90). -/
  dma : a = 0xFF46 → t = { s with dmaActive := true, dmaCursor := BitVec.ofNat 16 (v.toNat * 0x100) }
  noDma : a ≠ 0xFF46 → t.dmaActive = s.dmaActive ∧ t.dmaCursor = s.dmaCursor
  /-- A ROM address is left alone under `ignore` and stored under `store` (R86). -/
  romIgnored : a.toNat < 0x8000 → s.params.romWritePolicy = .ignore → t = s
  romStored : a.toNat < 0x8000 → s.params.romWritePolicy = .store → byteAt a t = some v

/-- What `push16(w)` leaves (R230): the high byte stored at SP - 1, then the low byte at SP - 2. -/
structure WordPushed (w : Word) (s t : State) : Prop where
  bytes : ∃ m, ByteStored (s.sp - 1) (w.extractLsb' 8 8) { s with sp := s.sp - 1 } m ∧
    ByteStored (s.sp - 2) (w.extractLsb' 0 8) { m with sp := s.sp - 2 } t
  pointer : t.sp = s.sp - 2
  whole : t = { s with sp := t.sp, mem := t.mem, dmaActive := t.dmaActive, dmaCursor := t.dmaCursor }
  frame : ∀ b, mirror b ≠ mirror (s.sp - 1) → mirror b ≠ mirror (s.sp - 2) → byteAt b t = byteAt b s

/-- Both bytes of a push at SP can be written. -/
def CanPush (s : State) : Prop := Writable s (s.sp - 1) ∧ Writable s (s.sp - 2)

/-- The word a pop at SP reads: `lo` at SP, `hi` at SP + 1 (R231). -/
def Stacked (w : Word) (s : State) : Prop :=
  memRead s.sp s = .ok (w.extractLsb' 0 8) ∧ memRead (s.sp + 1) s = .ok (w.extractLsb' 8 8)

/-- The pop at SP faults: in its first read, or in its second, made with SP already advanced (R231, R84). -/
def PopFaults (f : Fault) (s : State) : Prop :=
  memRead s.sp s = .error f ∨
    ∃ lo, memRead s.sp s = .ok lo ∧ memRead (s.sp + 1) { s with sp := s.sp + 1 } = .error f

/-- The load of A from `addr`: its bytes, its cost, its result, its fault (R206 to R218). -/
structure LoadsAcc (bytes : List Byte) (cost : Nat) (i : Instr) (addr : State → Word) : Prop where
  row : Row bytes i cost cost
  result : ∀ s v, memRead (addr s) s = .ok v → ∃ t, exec i s = .next t ∧ RegWritten .a v s t
  fault : ∀ s f, memRead (addr s) s = .error f → exec i s = .fault f

/-- The load of A through HL, after which HL is `next` (R210, R211). -/
structure LoadsAccStep (op : Byte) (i : Instr) (next : Word → Word) : Prop where
  row : Row [op] i 8 8
  result : ∀ s v, memRead s.hl s = .ok v → ∃ t, exec i s = .next t ∧
    t = { s with af := t.af, hl := next s.hl } ∧ t.reg8 .a = v ∧ t.reg8 .f = s.reg8 .f
  fault : ∀ s f, memRead s.hl s = .error f → exec i s = .fault f

/-- The store of the byte `val` at `addr` (R203, R205, R208 to R219). -/
structure Stores (bytes : List Byte) (cost : Nat) (i : Instr) (addr : State → Word) (val : State → Byte) : Prop where
  row : Row bytes i cost cost
  result : ∀ s, Writable s (addr s) → ∃ t, exec i s = .next t ∧ ByteStored (addr s) (val s) s t

/-- The store of A through HL, after which HL is `next` (R212, R213). -/
structure StoresAccStep (op : Byte) (i : Instr) (next : Word → Word) : Prop where
  row : Row [op] i 8 8
  result : ∀ s, Writable s s.hl → ∃ m, exec i s = .next { m with hl := next s.hl } ∧
    ByteStored s.hl (s.reg8 .a) s m

/-- A two-operand operation on A with right operand `b`: `P a b f a' f'` says what A and the flags become; nothing but
A and F changes. -/
def AluResult (P : Byte → Byte → Flags → Byte → Flags → Prop) (i : Instr) (b : Byte) (s : State) : Prop :=
  ∃ t, exec i s = .next t ∧ t = { s with af := t.af } ∧ P (s.reg8 .a) b s.flags (t.reg8 .a) t.flags

/-- The three forms of a two-operand operation (the form table of 41_alu8.md): register, (HL), immediate. -/
structure AluForms (regs : List (Byte × Instr × Reg8)) (opHl : Byte) (iHl : Instr) (opImm : Byte)
    (iImm : Byte → Instr) (P : Byte → Byte → Flags → Byte → Flags → Prop) : Prop where
  reg : ∀ row ∈ regs, Row [row.1] row.2.1 4 4 ∧ ∀ s, AluResult P row.2.1 (s.reg8 row.2.2) s
  rowHl : Row [opHl] iHl 8 8
  atHl : ∀ s b, memRead s.hl s = .ok b → AluResult P iHl b s
  atHlFault : ∀ s f, memRead s.hl s = .error f → exec iHl s = .fault f
  imm : ∀ n, Row [opImm, n] (iImm n) 8 8 ∧ ∀ s, AluResult P (iImm n) n s

/-- INC and DEC of a byte: `next v` is the result, `half v` the half-carry, `sub` the N flag; C is kept. -/
structure StepForms (regs : List (Byte × Instr × Reg8)) (opHl : Byte) (iHl : Instr) (next : Byte → Byte)
    (half : Byte → Bool) (sub : Bool) : Prop where
  reg : ∀ row ∈ regs, Row [row.1] row.2.1 4 4 ∧ ∀ s, ∃ t, exec row.2.1 s = .next t ∧
    RegFlagsWritten row.2.2 (next (s.reg8 row.2.2))
      ⟨decide (next (s.reg8 row.2.2) = 0), sub, half (s.reg8 row.2.2), s.flags.c⟩ s t
  rowHl : Row [opHl] iHl 12 12
  atHl : ∀ s v, memRead s.hl s = .ok v → Writable s s.hl → ∃ m t, exec iHl s = .next t ∧
    ByteStored s.hl (next v) s m ∧ FlagsWritten ⟨decide (next v = 0), sub, half v, s.flags.c⟩ m t
  atHlFault : ∀ s f, memRead s.hl s = .error f → exec iHl s = .fault f

/-- A rotate or shift of the CB map: `P v c w c'` says what the byte `v` and the carry `c` become. -/
structure RotateForms (regs : List (Byte × Instr × Reg8)) (opHl : Byte) (iHl : Instr)
    (P : Byte → Bool → Byte → Bool → Prop) : Prop where
  reg : ∀ row ∈ regs, Row [0xCB, row.1] row.2.1 8 8 ∧ ∀ s, ∃ t w c, exec row.2.1 s = .next t ∧
    P (s.reg8 row.2.2) s.flags.c w c ∧ RegFlagsWritten row.2.2 w ⟨decide (w = 0), false, false, c⟩ s t
  rowHl : Row [0xCB, opHl] iHl 16 16
  atHl : ∀ s v, memRead s.hl s = .ok v → Writable s s.hl → ∃ m t w c, exec iHl s = .next t ∧
    P v s.flags.c w c ∧ ByteStored s.hl w s m ∧ FlagsWritten ⟨decide (w = 0), false, false, c⟩ m t
  atHlFault : ∀ s f, memRead s.hl s = .error f → exec iHl s = .fault f

/-- RES and SET: bit `b` becomes `x`, the seven others stay; no flag changes. -/
structure BitForms (regs : List (Byte × Instr × Nat × Reg8)) (hls : List (Byte × Instr × Nat)) (x : Bool) : Prop where
  reg : ∀ row ∈ regs, Row [0xCB, row.1] row.2.1 8 8 ∧ ∀ s, ∃ t w, exec row.2.1 s = .next t ∧
    (∀ k < 8, w.getLsbD k = if k = row.2.2.1 then x else (s.reg8 row.2.2.2).getLsbD k) ∧
    RegWritten row.2.2.2 w s t
  atHl : ∀ row ∈ hls, Row [0xCB, row.1] row.2.1 16 16 ∧ ∀ s v, memRead s.hl s = .ok v → Writable s s.hl →
    ∃ t w, exec row.2.1 s = .next t ∧ (∀ k < 8, w.getLsbD k = if k = row.2.2 then x else v.getLsbD k) ∧
    ByteStored s.hl w s t
  atHlFault : ∀ row ∈ hls, ∀ s f, memRead s.hl s = .error f → exec row.2.1 s = .fault f

/-- A rotate of A: Z, N and H are reset (R281 to R284). -/
def RotatesAcc (op : Byte) (i : Instr) (P : Byte → Bool → Byte → Bool → Prop) : Prop :=
  Row [op] i 4 4 ∧ ∀ s, ∃ t w c, exec i s = .next t ∧ P (s.reg8 .a) s.flags.c w c ∧
    RegFlagsWritten .a w ⟨false, false, false, c⟩ s t

/-- One place to the left: bit 7 goes to the carry, `x` comes in at bit 0. -/
def ShiftedLeft (v : Byte) (x : Bool) (w : Byte) (c : Bool) : Prop :=
  c = v.getLsbD 7 ∧ w.getLsbD 0 = x ∧ ∀ k < 7, w.getLsbD (k + 1) = v.getLsbD k

/-- One place to the right: bit 0 goes to the carry, `x` comes in at bit 7. -/
def ShiftedRight (v : Byte) (x : Bool) (w : Byte) (c : Bool) : Prop :=
  c = v.getLsbD 0 ∧ w.getLsbD 7 = x ∧ ∀ k < 7, w.getLsbD k = v.getLsbD (k + 1)

/-- `n` memory ticks (R91), one after another. -/
def memoryTicks (n : Nat) (s : State) : Result :=
  match n with
  | 0 => .next s
  | n + 1 => andThen (memoryTick s) (memoryTicks n)

/-- The vector of a source (R420). -/
def vectorOf (i : Source) : Word :=
  match i with
  | .vblank => 0x0040
  | .stat => 0x0048
  | .timer => 0x0050
  | .serial => 0x0058
  | .joypad => 0x0060

/-- The bit of a source in IF and IE (R420). -/
def bitOf (i : Source) : Nat :=
  match i with
  | .vblank => 0
  | .stat => 1
  | .timer => 2
  | .serial => 3
  | .joypad => 4

/-- Source `i` is pending and enabled (R421). -/
def Pending (s : State) (i : Source) : Prop :=
  (s.peek 0xFF0F).getLsbD (bitOf i) = true ∧ (s.peek 0xFFFF).getLsbD (bitOf i) = true

/-- The bytes at PC are `bytes`, read as a fetch reads them (R121). -/
def AtPc (bytes : List Byte) (s : State) : Prop :=
  ∀ k (h : k < bytes.length), memRead (s.pc + BitVec.ofNat 16 k) s = .ok bytes[k]

/-- The two bits of a colour index from the bytes of a tile row (R439). -/
def colourOf (lo hi : Byte) (b : Nat) : Nat := 2 * (hi.getLsbD b).toNat + (lo.getLsbD b).toNat

/-- `(pal >> (2 * ci)) & 3` (R439). -/
def shadeOf (pal : Byte) (ci : Nat) : Nat := pal.toNat / 4 ^ ci % 4

/-- The background and window colour index of pixel `x` of line `ly`, as R439 computes it. -/
def backgroundIndex (s : State) (x ly : Nat) : Nat :=
  let lcdc := s.peek 0xFF40
  if lcdc.getLsbD 0 = false then 0
  else
    let window := lcdc.getLsbD 5 && decide (x + 7 ≥ (s.peek 0xFF4B).toNat) &&
      decide (ly ≥ (s.peek 0xFF4A).toNat)
    let map := if lcdc.getLsbD (if window then 6 else 3) then 0x9C00 else 0x9800
    let px := if window then x + 7 - (s.peek 0xFF4B).toNat else (x + (s.peek 0xFF43).toNat) % 256
    let py := if window then s.windowLine.toNat else (ly + (s.peek 0xFF42).toNat) % 256
    let t := (s.peek (map + py / 8 * 32 + px / 8)).toNat
    let base := if lcdc.getLsbD 4 = true ∨ 128 ≤ t then 0x8000 + 16 * t else 0x9000 + 16 * t
    colourOf (s.peek (base + 2 * (py % 8))) (s.peek (base + 2 * (py % 8) + 1)) (7 - px % 8)

/-- Byte `k` of OAM entry `i` as a number (R437). -/
def oam (s : State) (i : Fin 40) (k : Nat) : Nat := (s.peek (0xFE00 + 4 * i.val + k)).toNat

/-- Sprite `i` covers column `x` (R440). -/
def Covers (s : State) (x : Nat) (i : Fin 40) : Prop := oam s i 1 ≤ x + 8 ∧ x < oam s i 1

/-- The address of the row of sprite `i` on line `ly`, over the integers, then modulo 65536 (R440, log entry
12). -/
def spriteAddress (s : State) (ly : Nat) (i : Fin 40) : Word :=
  let h : Int := if s.spriteTall then 16 else 8
  let r : Int := ly + 16 - oam s i 0
  let r := if (oam s i 3).testBit 6 then h - 1 - r else r
  let tile : Nat := if s.spriteTall then oam s i 2 / 2 * 2 else oam s i 2
  BitVec.ofInt 16 (0x8000 + 16 * tile + 2 * r)

/-- The colour index sprite `i` shows at column `x` of line `ly` (R440). -/
def spriteIndex (s : State) (x ly : Nat) (i : Fin 40) : Nat :=
  let c : Nat := x + 8 - oam s i 1
  let c := if (oam s i 3).testBit 5 then 7 - c else c
  colourOf ((byteAt (spriteAddress s ly i) s).getD 0) ((byteAt (spriteAddress s ly i + 1) s).getD 0) (7 - c)

/-- The PPU tick reads no sprite data of an absent ROM bank (R84, R440): it draws no line, or draws it without
sprites, or the image has both banks, or every listed sprite's row is there. -/
def SpriteDataPresent (s : State) : Prop :=
  s.dot ≠ 80 ∨ 144 ≤ (s.peek 0xFF44).toNat ∨ (s.peek 0xFF40).getLsbD 1 = false ∨ 2 ≤ s.romBanks ∨
    ∀ i ∈ s.sprites, Readable s (spriteAddress s (s.peek 0xFF44).toNat i) ∧
      Readable s (spriteAddress s (s.peek 0xFF44).toNat i + 1)

/-- The state without the outputs: the frame buffer and the frames presented. -/
def withoutPictures (s : State) (f : Frame) (p : List Frame) : State := { s with frame := f, presented := p }

/-- An outcome up to the frame buffer and the frames presented. -/
def picturesErased (o : Result) : Result :=
  match o with
  | .next s => .next (withoutPictures s Config.frameInit [])
  | .fault f => .fault f
  | .refused r => .refused r

/-- LD r,r': opcode, instruction, destination, source (R201). -/
def copyRows : List (Byte × Instr × Reg8 × Reg8) :=
  [(0x40, .ldBB, .b, .b), (0x41, .ldBC, .b, .c), (0x42, .ldBD, .b, .d), (0x43, .ldBE, .b, .e),
   (0x44, .ldBH, .b, .h), (0x45, .ldBL, .b, .l), (0x47, .ldBA, .b, .a), (0x48, .ldCB, .c, .b),
   (0x49, .ldCC, .c, .c), (0x4A, .ldCD, .c, .d), (0x4B, .ldCE, .c, .e), (0x4C, .ldCH, .c, .h),
   (0x4D, .ldCL, .c, .l), (0x4F, .ldCA, .c, .a), (0x50, .ldDB, .d, .b), (0x51, .ldDC, .d, .c),
   (0x52, .ldDD, .d, .d), (0x53, .ldDE, .d, .e), (0x54, .ldDH, .d, .h), (0x55, .ldDL, .d, .l),
   (0x57, .ldDA, .d, .a), (0x58, .ldEB, .e, .b), (0x59, .ldEC, .e, .c), (0x5A, .ldED, .e, .d),
   (0x5B, .ldEE, .e, .e), (0x5C, .ldEH, .e, .h), (0x5D, .ldEL, .e, .l), (0x5F, .ldEA, .e, .a),
   (0x60, .ldHB, .h, .b), (0x61, .ldHC, .h, .c), (0x62, .ldHD, .h, .d), (0x63, .ldHE, .h, .e),
   (0x64, .ldHH, .h, .h), (0x65, .ldHL, .h, .l), (0x67, .ldHA, .h, .a), (0x68, .ldLB, .l, .b),
   (0x69, .ldLC, .l, .c), (0x6A, .ldLD, .l, .d), (0x6B, .ldLE, .l, .e), (0x6C, .ldLH, .l, .h),
   (0x6D, .ldLL, .l, .l), (0x6F, .ldLA, .l, .a), (0x78, .ldAB, .a, .b), (0x79, .ldAC, .a, .c),
   (0x7A, .ldAD, .a, .d), (0x7B, .ldAE, .a, .e), (0x7C, .ldAH, .a, .h), (0x7D, .ldAL, .a, .l),
   (0x7F, .ldAA, .a, .a)]

/-- LD r,(HL): opcode, instruction, destination (R202). -/
def loadAtHlRows : List (Byte × Instr × Reg8) :=
  [(0x46, .ldBAtHl, .b), (0x4E, .ldCAtHl, .c), (0x56, .ldDAtHl, .d), (0x5E, .ldEAtHl, .e),
   (0x66, .ldHAtHl, .h), (0x6E, .ldLAtHl, .l), (0x7E, .ldAAtHl, .a)]

/-- LD (HL),r: opcode, instruction, source (R203). -/
def storeAtHlRows : List (Byte × Instr × Reg8) :=
  [(0x70, .ldAtHlB, .b), (0x71, .ldAtHlC, .c), (0x72, .ldAtHlD, .d), (0x73, .ldAtHlE, .e),
   (0x74, .ldAtHlH, .h), (0x75, .ldAtHlL, .l), (0x77, .ldAtHlA, .a)]

/-- LD r,d8: opcode, instruction, destination (R204). -/
def loadByteRows : List (Byte × (Byte → Instr) × Reg8) :=
  [(0x06, .ldBD8, .b), (0x0E, .ldCD8, .c), (0x16, .ldDD8, .d), (0x1E, .ldED8, .e),
   (0x26, .ldHD8, .h), (0x2E, .ldLD8, .l), (0x3E, .ldAD8, .a)]

/-- LD rr,d16: opcode, instruction, destination (R220). -/
def loadWordRows : List (Byte × (Word → Instr) × Reg16) :=
  [(0x01, .ldBcD16, .bc), (0x11, .ldDeD16, .de), (0x21, .ldHlD16, .hl), (0x31, .ldSpD16, .sp)]

/-- PUSH rr: opcode, instruction, source (R233). -/
def pushRows : List (Byte × Instr × Reg16) :=
  [(0xC5, .pushBc, .bc), (0xD5, .pushDe, .de), (0xE5, .pushHl, .hl), (0xF5, .pushAf, .af)]

/-- POP rr: opcode, instruction, destination (R234). -/
def popRows : List (Byte × Instr × Reg16) :=
  [(0xC1, .popBc, .bc), (0xD1, .popDe, .de), (0xE1, .popHl, .hl)]

/-- ADD with a register: opcode, instruction, right operand (R241). -/
def addRows : List (Byte × Instr × Reg8) :=
  [(0x80, .addAB, .b), (0x81, .addAC, .c), (0x82, .addAD, .d), (0x83, .addAE, .e),
   (0x84, .addAH, .h), (0x85, .addAL, .l), (0x87, .addAA, .a)]

/-- ADC with a register: opcode, instruction, right operand (R242). -/
def adcRows : List (Byte × Instr × Reg8) :=
  [(0x88, .adcAB, .b), (0x89, .adcAC, .c), (0x8A, .adcAD, .d), (0x8B, .adcAE, .e),
   (0x8C, .adcAH, .h), (0x8D, .adcAL, .l), (0x8F, .adcAA, .a)]

/-- SUB with a register: opcode, instruction, right operand (R243). -/
def subRows : List (Byte × Instr × Reg8) :=
  [(0x90, .subB, .b), (0x91, .subC, .c), (0x92, .subD, .d), (0x93, .subE, .e),
   (0x94, .subH, .h), (0x95, .subL, .l), (0x97, .subA, .a)]

/-- SBC with a register: opcode, instruction, right operand (R244). -/
def sbcRows : List (Byte × Instr × Reg8) :=
  [(0x98, .sbcAB, .b), (0x99, .sbcAC, .c), (0x9A, .sbcAD, .d), (0x9B, .sbcAE, .e),
   (0x9C, .sbcAH, .h), (0x9D, .sbcAL, .l), (0x9F, .sbcAA, .a)]

/-- AND with a register: opcode, instruction, right operand (R245). -/
def andRows : List (Byte × Instr × Reg8) :=
  [(0xA0, .andB, .b), (0xA1, .andC, .c), (0xA2, .andD, .d), (0xA3, .andE, .e),
   (0xA4, .andH, .h), (0xA5, .andL, .l), (0xA7, .andA, .a)]

/-- XOR with a register: opcode, instruction, right operand (R246). -/
def xorRows : List (Byte × Instr × Reg8) :=
  [(0xA8, .xorB, .b), (0xA9, .xorC, .c), (0xAA, .xorD, .d), (0xAB, .xorE, .e),
   (0xAC, .xorH, .h), (0xAD, .xorL, .l), (0xAF, .xorA, .a)]

/-- OR with a register: opcode, instruction, right operand (R247). -/
def orRows : List (Byte × Instr × Reg8) :=
  [(0xB0, .orB, .b), (0xB1, .orC, .c), (0xB2, .orD, .d), (0xB3, .orE, .e),
   (0xB4, .orH, .h), (0xB5, .orL, .l), (0xB7, .orA, .a)]

/-- CP with a register: opcode, instruction, right operand (R248). -/
def cpRows : List (Byte × Instr × Reg8) :=
  [(0xB8, .cpB, .b), (0xB9, .cpC, .c), (0xBA, .cpD, .d), (0xBB, .cpE, .e),
   (0xBC, .cpH, .h), (0xBD, .cpL, .l), (0xBF, .cpA, .a)]

/-- INC r: opcode, instruction, register (R249). -/
def incRows : List (Byte × Instr × Reg8) :=
  [(0x04, .incB, .b), (0x0C, .incC, .c), (0x14, .incD, .d), (0x1C, .incE, .e),
   (0x24, .incH, .h), (0x2C, .incL, .l), (0x3C, .incA, .a)]

/-- DEC r: opcode, instruction, register (R251). -/
def decRows : List (Byte × Instr × Reg8) :=
  [(0x05, .decB, .b), (0x0D, .decC, .c), (0x15, .decD, .d), (0x1D, .decE, .e),
   (0x25, .decH, .h), (0x2D, .decL, .l), (0x3D, .decA, .a)]

/-- ADD HL,rr: opcode, instruction, right operand (R271). -/
def addHlRows : List (Byte × Instr × Reg16) :=
  [(0x09, .addHlBc, .bc), (0x19, .addHlDe, .de), (0x29, .addHlHl, .hl), (0x39, .addHlSp, .sp)]

/-- INC rr: opcode, instruction, register (R272). -/
def incPairRows : List (Byte × Instr × Reg16) :=
  [(0x03, .incBc, .bc), (0x13, .incDe, .de), (0x23, .incHl, .hl), (0x33, .incSp, .sp)]

/-- DEC rr: opcode, instruction, register (R273). -/
def decPairRows : List (Byte × Instr × Reg16) :=
  [(0x0B, .decBc, .bc), (0x1B, .decDe, .de), (0x2B, .decHl, .hl), (0x3B, .decSp, .sp)]

/-- RLC r: second byte, instruction, register (R286). -/
def rlcRows : List (Byte × Instr × Reg8) :=
  [(0x00, .rlcB, .b), (0x01, .rlcC, .c), (0x02, .rlcD, .d), (0x03, .rlcE, .e),
   (0x04, .rlcH, .h), (0x05, .rlcL, .l), (0x07, .rlcA, .a)]

/-- RRC r: second byte, instruction, register (R287). -/
def rrcRows : List (Byte × Instr × Reg8) :=
  [(0x08, .rrcB, .b), (0x09, .rrcC, .c), (0x0A, .rrcD, .d), (0x0B, .rrcE, .e),
   (0x0C, .rrcH, .h), (0x0D, .rrcL, .l), (0x0F, .rrcA, .a)]

/-- RL r: second byte, instruction, register (R288). -/
def rlRows : List (Byte × Instr × Reg8) :=
  [(0x10, .rlB, .b), (0x11, .rlC, .c), (0x12, .rlD, .d), (0x13, .rlE, .e),
   (0x14, .rlH, .h), (0x15, .rlL, .l), (0x17, .rlA, .a)]

/-- RR r: second byte, instruction, register (R289). -/
def rrRows : List (Byte × Instr × Reg8) :=
  [(0x18, .rrB, .b), (0x19, .rrC, .c), (0x1A, .rrD, .d), (0x1B, .rrE, .e),
   (0x1C, .rrH, .h), (0x1D, .rrL, .l), (0x1F, .rrA, .a)]

/-- SLA r: second byte, instruction, register (R290). -/
def slaRows : List (Byte × Instr × Reg8) :=
  [(0x20, .slaB, .b), (0x21, .slaC, .c), (0x22, .slaD, .d), (0x23, .slaE, .e),
   (0x24, .slaH, .h), (0x25, .slaL, .l), (0x27, .slaA, .a)]

/-- SRA r: second byte, instruction, register (R291). -/
def sraRows : List (Byte × Instr × Reg8) :=
  [(0x28, .sraB, .b), (0x29, .sraC, .c), (0x2A, .sraD, .d), (0x2B, .sraE, .e),
   (0x2C, .sraH, .h), (0x2D, .sraL, .l), (0x2F, .sraA, .a)]

/-- SWAP r: second byte, instruction, register (R292). -/
def swapRows : List (Byte × Instr × Reg8) :=
  [(0x30, .swapB, .b), (0x31, .swapC, .c), (0x32, .swapD, .d), (0x33, .swapE, .e),
   (0x34, .swapH, .h), (0x35, .swapL, .l), (0x37, .swapA, .a)]

/-- SRL r: second byte, instruction, register (R293). -/
def srlRows : List (Byte × Instr × Reg8) :=
  [(0x38, .srlB, .b), (0x39, .srlC, .c), (0x3A, .srlD, .d), (0x3B, .srlE, .e),
   (0x3C, .srlH, .h), (0x3D, .srlL, .l), (0x3F, .srlA, .a)]

/-- BIT b,r: second byte, instruction, bit, register (R295). -/
def bitRows : List (Byte × Instr × Nat × Reg8) :=
  [(0x40, .bit0B, 0, .b), (0x41, .bit0C, 0, .c), (0x42, .bit0D, 0, .d), (0x43, .bit0E, 0, .e),
   (0x44, .bit0H, 0, .h), (0x45, .bit0L, 0, .l), (0x47, .bit0A, 0, .a), (0x48, .bit1B, 1, .b),
   (0x49, .bit1C, 1, .c), (0x4A, .bit1D, 1, .d), (0x4B, .bit1E, 1, .e), (0x4C, .bit1H, 1, .h),
   (0x4D, .bit1L, 1, .l), (0x4F, .bit1A, 1, .a), (0x50, .bit2B, 2, .b), (0x51, .bit2C, 2, .c),
   (0x52, .bit2D, 2, .d), (0x53, .bit2E, 2, .e), (0x54, .bit2H, 2, .h), (0x55, .bit2L, 2, .l),
   (0x57, .bit2A, 2, .a), (0x58, .bit3B, 3, .b), (0x59, .bit3C, 3, .c), (0x5A, .bit3D, 3, .d),
   (0x5B, .bit3E, 3, .e), (0x5C, .bit3H, 3, .h), (0x5D, .bit3L, 3, .l), (0x5F, .bit3A, 3, .a),
   (0x60, .bit4B, 4, .b), (0x61, .bit4C, 4, .c), (0x62, .bit4D, 4, .d), (0x63, .bit4E, 4, .e),
   (0x64, .bit4H, 4, .h), (0x65, .bit4L, 4, .l), (0x67, .bit4A, 4, .a), (0x68, .bit5B, 5, .b),
   (0x69, .bit5C, 5, .c), (0x6A, .bit5D, 5, .d), (0x6B, .bit5E, 5, .e), (0x6C, .bit5H, 5, .h),
   (0x6D, .bit5L, 5, .l), (0x6F, .bit5A, 5, .a), (0x70, .bit6B, 6, .b), (0x71, .bit6C, 6, .c),
   (0x72, .bit6D, 6, .d), (0x73, .bit6E, 6, .e), (0x74, .bit6H, 6, .h), (0x75, .bit6L, 6, .l),
   (0x77, .bit6A, 6, .a), (0x78, .bit7B, 7, .b), (0x79, .bit7C, 7, .c), (0x7A, .bit7D, 7, .d),
   (0x7B, .bit7E, 7, .e), (0x7C, .bit7H, 7, .h), (0x7D, .bit7L, 7, .l), (0x7F, .bit7A, 7, .a)]

/-- BIT b,(HL): second byte, instruction, bit (R295). -/
def bitAtHlRows : List (Byte × Instr × Nat) :=
  [(0x46, .bit0AtHl, 0), (0x4E, .bit1AtHl, 1), (0x56, .bit2AtHl, 2), (0x5E, .bit3AtHl, 3),
   (0x66, .bit4AtHl, 4), (0x6E, .bit5AtHl, 5), (0x76, .bit6AtHl, 6), (0x7E, .bit7AtHl, 7)]

/-- RES b,r: second byte, instruction, bit, register (R296). -/
def resRows : List (Byte × Instr × Nat × Reg8) :=
  [(0x80, .res0B, 0, .b), (0x81, .res0C, 0, .c), (0x82, .res0D, 0, .d), (0x83, .res0E, 0, .e),
   (0x84, .res0H, 0, .h), (0x85, .res0L, 0, .l), (0x87, .res0A, 0, .a), (0x88, .res1B, 1, .b),
   (0x89, .res1C, 1, .c), (0x8A, .res1D, 1, .d), (0x8B, .res1E, 1, .e), (0x8C, .res1H, 1, .h),
   (0x8D, .res1L, 1, .l), (0x8F, .res1A, 1, .a), (0x90, .res2B, 2, .b), (0x91, .res2C, 2, .c),
   (0x92, .res2D, 2, .d), (0x93, .res2E, 2, .e), (0x94, .res2H, 2, .h), (0x95, .res2L, 2, .l),
   (0x97, .res2A, 2, .a), (0x98, .res3B, 3, .b), (0x99, .res3C, 3, .c), (0x9A, .res3D, 3, .d),
   (0x9B, .res3E, 3, .e), (0x9C, .res3H, 3, .h), (0x9D, .res3L, 3, .l), (0x9F, .res3A, 3, .a),
   (0xA0, .res4B, 4, .b), (0xA1, .res4C, 4, .c), (0xA2, .res4D, 4, .d), (0xA3, .res4E, 4, .e),
   (0xA4, .res4H, 4, .h), (0xA5, .res4L, 4, .l), (0xA7, .res4A, 4, .a), (0xA8, .res5B, 5, .b),
   (0xA9, .res5C, 5, .c), (0xAA, .res5D, 5, .d), (0xAB, .res5E, 5, .e), (0xAC, .res5H, 5, .h),
   (0xAD, .res5L, 5, .l), (0xAF, .res5A, 5, .a), (0xB0, .res6B, 6, .b), (0xB1, .res6C, 6, .c),
   (0xB2, .res6D, 6, .d), (0xB3, .res6E, 6, .e), (0xB4, .res6H, 6, .h), (0xB5, .res6L, 6, .l),
   (0xB7, .res6A, 6, .a), (0xB8, .res7B, 7, .b), (0xB9, .res7C, 7, .c), (0xBA, .res7D, 7, .d),
   (0xBB, .res7E, 7, .e), (0xBC, .res7H, 7, .h), (0xBD, .res7L, 7, .l), (0xBF, .res7A, 7, .a)]

/-- RES b,(HL): second byte, instruction, bit (R296). -/
def resAtHlRows : List (Byte × Instr × Nat) :=
  [(0x86, .res0AtHl, 0), (0x8E, .res1AtHl, 1), (0x96, .res2AtHl, 2), (0x9E, .res3AtHl, 3),
   (0xA6, .res4AtHl, 4), (0xAE, .res5AtHl, 5), (0xB6, .res6AtHl, 6), (0xBE, .res7AtHl, 7)]

/-- SET b,r: second byte, instruction, bit, register (R297). -/
def setRows : List (Byte × Instr × Nat × Reg8) :=
  [(0xC0, .set0B, 0, .b), (0xC1, .set0C, 0, .c), (0xC2, .set0D, 0, .d), (0xC3, .set0E, 0, .e),
   (0xC4, .set0H, 0, .h), (0xC5, .set0L, 0, .l), (0xC7, .set0A, 0, .a), (0xC8, .set1B, 1, .b),
   (0xC9, .set1C, 1, .c), (0xCA, .set1D, 1, .d), (0xCB, .set1E, 1, .e), (0xCC, .set1H, 1, .h),
   (0xCD, .set1L, 1, .l), (0xCF, .set1A, 1, .a), (0xD0, .set2B, 2, .b), (0xD1, .set2C, 2, .c),
   (0xD2, .set2D, 2, .d), (0xD3, .set2E, 2, .e), (0xD4, .set2H, 2, .h), (0xD5, .set2L, 2, .l),
   (0xD7, .set2A, 2, .a), (0xD8, .set3B, 3, .b), (0xD9, .set3C, 3, .c), (0xDA, .set3D, 3, .d),
   (0xDB, .set3E, 3, .e), (0xDC, .set3H, 3, .h), (0xDD, .set3L, 3, .l), (0xDF, .set3A, 3, .a),
   (0xE0, .set4B, 4, .b), (0xE1, .set4C, 4, .c), (0xE2, .set4D, 4, .d), (0xE3, .set4E, 4, .e),
   (0xE4, .set4H, 4, .h), (0xE5, .set4L, 4, .l), (0xE7, .set4A, 4, .a), (0xE8, .set5B, 5, .b),
   (0xE9, .set5C, 5, .c), (0xEA, .set5D, 5, .d), (0xEB, .set5E, 5, .e), (0xEC, .set5H, 5, .h),
   (0xED, .set5L, 5, .l), (0xEF, .set5A, 5, .a), (0xF0, .set6B, 6, .b), (0xF1, .set6C, 6, .c),
   (0xF2, .set6D, 6, .d), (0xF3, .set6E, 6, .e), (0xF4, .set6H, 6, .h), (0xF5, .set6L, 6, .l),
   (0xF7, .set6A, 6, .a), (0xF8, .set7B, 7, .b), (0xF9, .set7C, 7, .c), (0xFA, .set7D, 7, .d),
   (0xFB, .set7E, 7, .e), (0xFC, .set7H, 7, .h), (0xFD, .set7L, 7, .l), (0xFF, .set7A, 7, .a)]

/-- SET b,(HL): second byte, instruction, bit (R297). -/
def setAtHlRows : List (Byte × Instr × Nat) :=
  [(0xC6, .set0AtHl, 0), (0xCE, .set1AtHl, 1), (0xD6, .set2AtHl, 2), (0xDE, .set3AtHl, 3),
   (0xE6, .set4AtHl, 4), (0xEE, .set5AtHl, 5), (0xF6, .set6AtHl, 6), (0xFE, .set7AtHl, 7)]

/-- JP cc,a16: opcode, instruction, condition (R127, R312). -/
def jpIfRows : List (Byte × (Word → Instr) × (State → Bool)) :=
  [(0xC2, .jpNzA16, fun s => !s.flags.z), (0xCA, .jpZA16, fun s => s.flags.z),
   (0xD2, .jpNcA16, fun s => !s.flags.c), (0xDA, .jpCA16, fun s => s.flags.c)]

/-- JR cc,e8: opcode, instruction, condition (R127, R315). -/
def jrIfRows : List (Byte × (Byte → Instr) × (State → Bool)) :=
  [(0x20, .jrNzE8, fun s => !s.flags.z), (0x28, .jrZE8, fun s => s.flags.z),
   (0x30, .jrNcE8, fun s => !s.flags.c), (0x38, .jrCE8, fun s => s.flags.c)]

/-- CALL cc,a16: opcode, instruction, condition (R127, R317). -/
def callIfRows : List (Byte × (Word → Instr) × (State → Bool)) :=
  [(0xC4, .callNzA16, fun s => !s.flags.z), (0xCC, .callZA16, fun s => s.flags.z),
   (0xD4, .callNcA16, fun s => !s.flags.c), (0xDC, .callCA16, fun s => s.flags.c)]

/-- RET cc: opcode, instruction, condition (R127, R319). -/
def retIfRows : List (Byte × Instr × (State → Bool)) :=
  [(0xC0, .retNz, fun s => !s.flags.z), (0xC8, .retZ, fun s => s.flags.z),
   (0xD0, .retNc, fun s => !s.flags.c), (0xD8, .retC, fun s => s.flags.c)]

/-- RST n: opcode, instruction, target (R320). -/
def rstRows : List (Byte × Instr × Word) :=
  [(0xC7, .rst00, 0x00), (0xCF, .rst08, 0x08), (0xD7, .rst10, 0x10), (0xDF, .rst18, 0x18),
   (0xE7, .rst20, 0x20), (0xEF, .rst28, 0x28), (0xF7, .rst30, 0x30), (0xFF, .rst38, 0x38)]

/-- The illegal bytes: opcode, instruction (R135, R337). -/
def illegalRows : List (Byte × Instr) :=
  [(0xD3, .illegalD3), (0xDB, .illegalDB), (0xDD, .illegalDD), (0xE3, .illegalE3),
   (0xE4, .illegalE4), (0xEB, .illegalEB), (0xEC, .illegalEC), (0xED, .illegalED),
   (0xF4, .illegalF4), (0xFC, .illegalFC), (0xFD, .illegalFD)]
end Sys2Proof.Claims

open Sys2Proof Sys2Proof.Machine Sys2Proof.Claims


/-- LD r,r' (R201): all 49 forms, each with its completion, result and frame. -/
def Obligations.CopyRegister : Prop :=
  ∀ row ∈ copyRows, Row [row.1] row.2.1 4 4 ∧
    ∀ s, ∃ t, exec row.2.1 s = .next t ∧ RegWritten row.2.2.1 (s.reg8 row.2.2.2) s t ∧
      (row.2.2.1 = row.2.2.2 → s.af &&& 0x000F = 0 → t = s)

/-- LD r,(HL) (R202). -/
def Obligations.LoadRegisterAtHl : Prop :=
  ∀ row ∈ loadAtHlRows, Row [row.1] row.2.1 8 8 ∧
    (∀ s v, memRead s.hl s = .ok v → ∃ t, exec row.2.1 s = .next t ∧ RegWritten row.2.2 v s t) ∧
    ∀ s f, memRead s.hl s = .error f → exec row.2.1 s = .fault f

/-- LD A,(BC), LD A,(DE), LD A,(a16), LDH A,(a8), LD A,(C), LD A,(HL+), LD A,(HL-) (R206, R207, R210, R211, R214,
R216, R218). -/
def Obligations.LoadAccumulator : Prop :=
  LoadsAcc [0x0A] 8 .ldAAtBc (fun s => s.bc) ∧
  LoadsAcc [0x1A] 8 .ldAAtDe (fun s => s.de) ∧
  (∀ lo hi : Byte, LoadsAcc [0xFA, lo, hi] 16 (.ldAAtA16 (hi ++ lo)) (fun _ => hi ++ lo)) ∧
  (∀ n : Byte, LoadsAcc [0xF0, n] 12 (.ldhAAtA8 n) (fun _ => 0xFF00 + n.zeroExtend 16)) ∧
  LoadsAcc [0xF2] 8 .ldAAtC (fun s => 0xFF00 + (s.reg8 .c).zeroExtend 16) ∧
  (∀ (n : Byte) (s : State), ∃ v, memRead (0xFF00 + n.zeroExtend 16) s = .ok v) ∧
  LoadsAccStep 0x2A .ldAAtHlInc (fun a => a + 1) ∧ LoadsAccStep 0x3A .ldAAtHlDec (fun a => a - 1)

/-- The byte stores (R203, R205, R208, R209, R212, R213, R215, R217, R219). -/
def Obligations.StoreByte : Prop :=
  (∀ row ∈ storeAtHlRows, Stores [row.1] 8 row.2.1 (fun s => s.hl) (fun s => s.reg8 row.2.2)) ∧
  (∀ n : Byte, Stores [0x36, n] 12 (.ldAtHlD8 n) (fun s => s.hl) (fun _ => n)) ∧
  Stores [0x02] 8 .ldAtBcA (fun s => s.bc) (fun s => s.reg8 .a) ∧
  Stores [0x12] 8 .ldAtDeA (fun s => s.de) (fun s => s.reg8 .a) ∧
  (∀ lo hi : Byte, Stores [0xEA, lo, hi] 16 (.ldAtA16A (hi ++ lo)) (fun _ => hi ++ lo) (fun s => s.reg8 .a)) ∧
  (∀ n : Byte, Stores [0xE0, n] 12 (.ldhAtA8A n) (fun _ => 0xFF00 + n.zeroExtend 16) (fun s => s.reg8 .a)) ∧
  Stores [0xE2] 8 .ldAtCA (fun s => 0xFF00 + (s.reg8 .c).zeroExtend 16) (fun s => s.reg8 .a) ∧
  StoresAccStep 0x22 .ldAtHlIncA (fun a => a + 1) ∧ StoresAccStep 0x32 .ldAtHlDecA (fun a => a - 1)

/-- LD r,d8, LD rr,d16, LD SP,HL (R204, R220, R222). -/
def Obligations.LoadImmediate : Prop :=
  (∀ row ∈ loadByteRows, ∀ n, Row [row.1, n] (row.2.1 n) 8 8 ∧
    ∀ s, ∃ t, exec (row.2.1 n) s = .next t ∧ RegWritten row.2.2 n s t) ∧
  (∀ row ∈ loadWordRows, ∀ lo hi : Byte, Row [row.1, lo, hi] (row.2.1 (hi ++ lo)) 12 12 ∧
    ∀ s, ∃ t, exec (row.2.1 (hi ++ lo)) s = .next t ∧ PairWritten row.2.2 (hi ++ lo) s t) ∧
  Row [0xF9] .ldSpHl 8 8 ∧ ∀ s, ∃ t, exec .ldSpHl s = .next t ∧ PairWritten .sp s.hl s t

/-- `sp_add_e8` and its two users (R226, R274, R275). -/
def Obligations.StackPointerRelative : Prop :=
  ∀ n : Byte, Row [0xE8, n] (.addSpE8 n) 16 16 ∧ Row [0xF8, n] (.ldHlSpE8 n) 12 12 ∧
    ∀ s : State,
      (∃ t, exec (.addSpE8 n) s = .next t ∧ t = { s with af := t.af, sp := s.sp + n.signExtend 16 } ∧
        t.reg8 .a = s.reg8 .a ∧
        t.flags = ⟨false, false, decide (s.sp.toNat % 16 + n.toNat % 16 > 0x0F),
          decide (s.sp.toNat % 256 + n.toNat > 0xFF)⟩) ∧
      ∃ t, exec (.ldHlSpE8 n) s = .next t ∧ t = { s with af := t.af, hl := s.sp + n.signExtend 16 } ∧
        t.reg8 .a = s.reg8 .a ∧
        t.flags = ⟨false, false, decide (s.sp.toNat % 16 + n.toNat % 16 > 0x0F),
          decide (s.sp.toNat % 256 + n.toNat > 0xFF)⟩

/-- LD (a16),SP (R221). -/
def Obligations.StoreStackPointer : Prop :=
  ∀ lo hi : Byte, Row [0x08, lo, hi] (.ldAtA16Sp (hi ++ lo)) 20 20 ∧
    ∀ s : State, Writable s (hi ++ lo) → Writable s (hi ++ lo + 1) →
      ∃ m t, exec (.ldAtA16Sp (hi ++ lo)) s = .next t ∧
        ByteStored (hi ++ lo) (s.sp.extractLsb' 0 8) s m ∧
        ByteStored (hi ++ lo + 1) (s.sp.extractLsb' 8 8) m t ∧
        (∀ b, mirror b ≠ mirror (hi ++ lo) → mirror b ≠ mirror (hi ++ lo + 1) → byteAt b t = byteAt b s) ∧
        t = { s with mem := t.mem, dmaActive := t.dmaActive, dmaCursor := t.dmaCursor }

/-- PUSH rr and `push16` (R230, R233). -/
def Obligations.PushPair : Prop :=
  ∀ row ∈ pushRows, Row [row.1] row.2.1 16 16 ∧
    ∀ s, CanPush s → ∃ t, exec row.2.1 s = .next t ∧
      WordPushed (if row.2.2 = .af then s.af &&& 0xFFF0 else s.reg16 row.2.2) s t

/-- POP rr, POP AF and `pop16` (R231, R232, R234). -/
def Obligations.PopPair : Prop :=
  (∀ row ∈ popRows, Row [row.1] row.2.1 12 12 ∧
    (∀ s w, Stacked w s → ∃ t, exec row.2.1 s = .next t ∧
      PairWritten row.2.2 w { s with sp := s.sp + 2 } t) ∧
    ∀ s f, PopFaults f s → exec row.2.1 s = .fault f) ∧
  Row [0xF1] .popAf 12 12 ∧
  (∀ s w, Stacked w s → ∃ t, exec .popAf s = .next t ∧ t = { s with sp := s.sp + 2, af := w &&& 0xFFF0 } ∧
    t.flags = ⟨w.getLsbD 7, w.getLsbD 6, w.getLsbD 5, w.getLsbD 4⟩) ∧
  ∀ s f, PopFaults f s → exec .popAf s = .fault f

/-- The round-trip law of the stack (R231). -/
def Obligations.PushThenPopRestores : Prop :=
  ∀ (s : State) (w : Word), 0x8000 ≤ (s.sp - 1).toNat → 0x8000 ≤ (s.sp - 2).toNat →
    s.sp - 1 ≠ 0xFF00 → s.sp - 1 ≠ 0xFF46 → s.sp - 2 ≠ 0xFF00 → s.sp - 2 ≠ 0xFF46 →
    (∃ t, push16 w s = .next t ∧ t.sp = s.sp - 2 ∧ byteAt (s.sp - 1) t = some (w.extractLsb' 8 8) ∧
      byteAt (s.sp - 2) t = some (w.extractLsb' 0 8) ∧
      ∀ k, pop16 t k = k w { t with sp := s.sp }) ∧
    (s.af &&& 0x000F = 0 → ∃ t u, exec .pushAf s = .next t ∧ exec .popAf t = .next u ∧ u.af = s.af ∧ u.sp = s.sp)

/-- ADD and ADC (R241, R242). -/
def Obligations.AddAndAdc : Prop :=
  AluForms addRows 0x86 .addAAtHl 0xC6 .addAD8 (fun a b _ a' f' =>
    a'.toNat = (a.toNat + b.toNat) % 256 ∧
    f' = ⟨decide ((a.toNat + b.toNat) % 256 = 0), false,
      decide (a.toNat % 16 + b.toNat % 16 > 0xF), decide (a.toNat + b.toNat > 0xFF)⟩) ∧
  AluForms adcRows 0x8E .adcAAtHl 0xCE .adcAD8 (fun a b f a' f' =>
    a'.toNat = (a.toNat + b.toNat + f.c.toNat) % 256 ∧
    f' = ⟨decide ((a.toNat + b.toNat + f.c.toNat) % 256 = 0), false,
      decide (a.toNat % 16 + b.toNat % 16 + f.c.toNat > 0xF), decide (a.toNat + b.toNat + f.c.toNat > 0xFF)⟩)

/-- SUB, SBC and CP (R243, R244, R248). -/
def Obligations.SubtractAndCompare : Prop :=
  AluForms subRows 0x96 .subAtHl 0xD6 .subD8 (fun a b _ a' f' =>
    (a'.toNat : Int) = ((a.toNat : Int) - b.toNat) % 256 ∧
    f' = ⟨decide (((a.toNat : Int) - b.toNat) % 256 = 0), true,
      decide (b.toNat % 16 > a.toNat % 16), decide (b.toNat > a.toNat)⟩) ∧
  AluForms sbcRows 0x9E .sbcAAtHl 0xDE .sbcAD8 (fun a b f a' f' =>
    (a'.toNat : Int) = ((a.toNat : Int) - b.toNat - f.c.toNat) % 256 ∧
    f' = ⟨decide (((a.toNat : Int) - b.toNat - f.c.toNat) % 256 = 0), true,
      decide (b.toNat % 16 + f.c.toNat > a.toNat % 16), decide (b.toNat + f.c.toNat > a.toNat)⟩) ∧
  AluForms cpRows 0xBE .cpAtHl 0xFE .cpD8 (fun a b _ a' f' =>
    a' = a ∧
    f' = ⟨decide (((a.toNat : Int) - b.toNat) % 256 = 0), true,
      decide (b.toNat % 16 > a.toNat % 16), decide (b.toNat > a.toNat)⟩)

/-- AND, XOR and OR (R245, R246, R247). -/
def Obligations.LogicOperations : Prop :=
  AluForms andRows 0xA6 .andAtHl 0xE6 .andD8 (fun a b _ a' f' =>
    (∀ k < 8, a'.getLsbD k = (a.getLsbD k && b.getLsbD k)) ∧ f' = ⟨decide (a' = 0), false, true, false⟩) ∧
  AluForms xorRows 0xAE .xorAtHl 0xEE .xorD8 (fun a b _ a' f' =>
    (∀ k < 8, a'.getLsbD k = (a.getLsbD k ^^ b.getLsbD k)) ∧ f' = ⟨decide (a' = 0), false, false, false⟩) ∧
  AluForms orRows 0xB6 .orAtHl 0xF6 .orD8 (fun a b _ a' f' =>
    (∀ k < 8, a'.getLsbD k = (a.getLsbD k || b.getLsbD k)) ∧ f' = ⟨decide (a' = 0), false, false, false⟩)

/-- INC and DEC of a byte (R249 to R252). -/
def Obligations.IncrementAndDecrement : Prop :=
  StepForms incRows 0x34 .incAtHl (fun v => BitVec.ofNat 8 (v.toNat + 1)) (fun v => decide (v.toNat % 16 = 15))
    false ∧
  StepForms decRows 0x35 .decAtHl (fun v => BitVec.ofNat 8 (v.toNat + 255)) (fun v => decide (v.toNat % 16 = 0))
    true

/-- DAA (R253). -/
def Obligations.DecimalAdjust : Prop :=
  Row [0x27] .daa 4 4 ∧
  ∀ s, ∃ t, exec .daa s = .next t ∧ t = { s with af := t.af } ∧
    (s.flags.n = false →
      (t.reg8 .a).toNat = ((s.reg8 .a).toNat +
        (if s.flags.c = true ∨ (s.reg8 .a).toNat > 0x99 then 0x60 else 0) +
        (if s.flags.h = true ∨ (s.reg8 .a).toNat % 16 > 9 then 0x06 else 0)) % 256 ∧
      t.flags.c = decide (s.flags.c = true ∨ (s.reg8 .a).toNat > 0x99)) ∧
    (s.flags.n = true →
      (t.reg8 .a).toNat = ((s.reg8 .a).toNat + 256 - (if s.flags.c then 0x60 else 0) -
        (if s.flags.h then 0x06 else 0)) % 256 ∧
      t.flags.c = s.flags.c) ∧
    t.flags.z = decide (t.reg8 .a = 0) ∧ t.flags.n = s.flags.n ∧ t.flags.h = false

/-- CPL, SCF and CCF (R254, R255, R256). -/
def Obligations.ComplementAndCarryFlags : Prop :=
  Row [0x2F] .cpl 4 4 ∧ Row [0x37] .scf 4 4 ∧ Row [0x3F] .ccf 4 4 ∧
  ∀ s : State,
    (∃ t w, exec .cpl s = .next t ∧ (∀ k < 8, w.getLsbD k = !(s.reg8 .a).getLsbD k) ∧
      RegFlagsWritten .a w ⟨s.flags.z, true, true, s.flags.c⟩ s t) ∧
    (∃ t, exec .scf s = .next t ∧ FlagsWritten ⟨s.flags.z, false, false, true⟩ s t) ∧
    ∃ t, exec .ccf s = .next t ∧ FlagsWritten ⟨s.flags.z, false, false, !s.flags.c⟩ s t

/-- ADD HL,rr (R271). -/
def Obligations.AddToHl : Prop :=
  ∀ row ∈ addHlRows, Row [row.1] row.2.1 8 8 ∧
    ∀ s, ∃ t, exec row.2.1 s = .next t ∧ t = { s with af := t.af, hl := t.hl } ∧
      t.hl.toNat = (s.hl.toNat + (s.reg16 row.2.2).toNat) % 65536 ∧ t.reg8 .a = s.reg8 .a ∧
      t.flags = ⟨s.flags.z, false,
        decide (s.hl.toNat % 0x1000 + (s.reg16 row.2.2).toNat % 0x1000 > 0x0FFF),
        decide (s.hl.toNat + (s.reg16 row.2.2).toNat > 0xFFFF)⟩

/-- INC rr and DEC rr (R272, R273). -/
def Obligations.IncrementAndDecrementPair : Prop :=
  (∀ row ∈ incPairRows, Row [row.1] row.2.1 8 8 ∧
    ∀ s, ∃ t, exec row.2.1 s = .next t ∧ PairWritten row.2.2 (s.reg16 row.2.2 + 1) s t) ∧
  ∀ row ∈ decPairRows, Row [row.1] row.2.1 8 8 ∧
    ∀ s, ∃ t, exec row.2.1 s = .next t ∧ PairWritten row.2.2 (s.reg16 row.2.2 - 1) s t

/-- The accumulator rotates (R281 to R284). -/
def Obligations.RotateAccumulator : Prop :=
  RotatesAcc 0x07 .rlca (fun v _ w c => ShiftedLeft v (v.getLsbD 7) w c) ∧
  RotatesAcc 0x0F .rrca (fun v _ w c => ShiftedRight v (v.getLsbD 0) w c) ∧
  RotatesAcc 0x17 .rla (fun v x w c => ShiftedLeft v x w c) ∧
  RotatesAcc 0x1F .rra (fun v x w c => ShiftedRight v x w c)

/-- RLC, RRC, RL, RR (R286 to R289). -/
def Obligations.RotateOperand : Prop :=
  RotateForms rlcRows 0x06 .rlcAtHl (fun v _ w c => ShiftedLeft v (v.getLsbD 7) w c) ∧
  RotateForms rrcRows 0x0E .rrcAtHl (fun v _ w c => ShiftedRight v (v.getLsbD 0) w c) ∧
  RotateForms rlRows 0x16 .rlAtHl (fun v x w c => ShiftedLeft v x w c) ∧
  RotateForms rrRows 0x1E .rrAtHl (fun v x w c => ShiftedRight v x w c)

/-- SLA, SRA, SWAP, SRL (R290 to R293). -/
def Obligations.ShiftOperand : Prop :=
  RotateForms slaRows 0x26 .slaAtHl (fun v _ w c => ShiftedLeft v false w c) ∧
  RotateForms sraRows 0x2E .sraAtHl (fun v _ w c => ShiftedRight v (v.getLsbD 7) w c) ∧
  RotateForms swapRows 0x36 .swapAtHl (fun v _ w c => c = false ∧ ∀ k < 8, w.getLsbD k = v.getLsbD ((k + 4) % 8)) ∧
  RotateForms srlRows 0x3E .srlAtHl (fun v _ w c => ShiftedRight v false w c)

/-- BIT (R295). -/
def Obligations.TestBit : Prop :=
  (∀ row ∈ bitRows, Row [0xCB, row.1] row.2.1 8 8 ∧ ∀ s, ∃ t, exec row.2.1 s = .next t ∧
    FlagsWritten ⟨!(s.reg8 row.2.2.2).getLsbD row.2.2.1, false, true, s.flags.c⟩ s t) ∧
  ∀ row ∈ bitAtHlRows, Row [0xCB, row.1] row.2.1 12 12 ∧
    (∀ s v, memRead s.hl s = .ok v → ∃ t, exec row.2.1 s = .next t ∧
      FlagsWritten ⟨!v.getLsbD row.2.2, false, true, s.flags.c⟩ s t) ∧
    ∀ s f, memRead s.hl s = .error f → exec row.2.1 s = .fault f

/-- RES and SET (R296, R297). -/
def Obligations.ResetAndSetBit : Prop :=
  BitForms resRows resAtHlRows false ∧ BitForms setRows setAtHlRows true

/-- JP a16, JP HL, JR e8 (R311, R313, R314). -/
def Obligations.Jump : Prop :=
  (∀ lo hi : Byte, Row [0xC3, lo, hi] (.jpA16 (hi ++ lo)) 16 16 ∧
    ∀ s, exec (.jpA16 (hi ++ lo)) s = .next { s with pc := hi ++ lo }) ∧
  (Row [0xE9] .jpHl 4 4 ∧ ∀ s, exec .jpHl s = .next { s with pc := s.hl }) ∧
  ∀ n : Byte, Row [0x18, n] (.jrE8 n) 12 12 ∧
    ∀ s : State, exec (.jrE8 n) s = .next { s with pc := s.pc + n.signExtend 16 }

/-- JP cc,a16 and JR cc,e8 with their conditions and costs (R312, R315). -/
def Obligations.JumpIfCondition : Prop :=
  (∀ row ∈ jpIfRows, ∀ lo hi : Byte, Row [row.1, lo, hi] (row.2.1 (hi ++ lo)) 16 12 ∧
    ∀ s, taken (row.2.1 (hi ++ lo)) s = row.2.2 s ∧
      exec (row.2.1 (hi ++ lo)) s = .next (if row.2.2 s then { s with pc := hi ++ lo } else s)) ∧
  ∀ row ∈ jrIfRows, ∀ n : Byte, Row [row.1, n] (row.2.1 n) 12 8 ∧
    ∀ s, taken (row.2.1 n) s = row.2.2 s ∧
      exec (row.2.1 n) s = .next (if row.2.2 s then { s with pc := s.pc + n.signExtend 16 } else s)

/-- CALL, CALL cc, RST and `call_sub` (R316, R317, R320, R322). -/
def Obligations.CallSubroutine : Prop :=
  (∀ lo hi : Byte, Row [0xCD, lo, hi] (.callA16 (hi ++ lo)) 24 24 ∧
    ∀ s, CanPush s → ∃ u, WordPushed s.pc s u ∧ exec (.callA16 (hi ++ lo)) s = .next { u with pc := hi ++ lo }) ∧
  (∀ row ∈ callIfRows, ∀ lo hi : Byte, Row [row.1, lo, hi] (row.2.1 (hi ++ lo)) 24 12 ∧
    ∀ s, taken (row.2.1 (hi ++ lo)) s = row.2.2 s ∧
      (row.2.2 s = true → CanPush s →
        ∃ u, WordPushed s.pc s u ∧ exec (row.2.1 (hi ++ lo)) s = .next { u with pc := hi ++ lo }) ∧
      (row.2.2 s = false → exec (row.2.1 (hi ++ lo)) s = .next s)) ∧
  ∀ row ∈ rstRows, Row [row.1] row.2.1 16 16 ∧
    ∀ s, CanPush s → ∃ u, WordPushed s.pc s u ∧ exec row.2.1 s = .next { u with pc := row.2.2 }

/-- RET, RET cc, RETI and `ret_sub` (R318, R319, R321, R323). -/
def Obligations.ReturnFromSubroutine : Prop :=
  (Row [0xC9] .ret 16 16 ∧
    (∀ s w, Stacked w s → exec .ret s = .next { s with sp := s.sp + 2, pc := w }) ∧
    ∀ s f, PopFaults f s → exec .ret s = .fault f) ∧
  (Row [0xD9] .reti 16 16 ∧
    (∀ s w, Stacked w s → exec .reti s = .next { s with sp := s.sp + 2, pc := w, ime := true }) ∧
    ∀ s f, PopFaults f s → exec .reti s = .fault f) ∧
  ∀ row ∈ retIfRows, Row [row.1] row.2.1 20 8 ∧
    ∀ s, taken row.2.1 s = row.2.2 s ∧
      (row.2.2 s = true → ∀ w, Stacked w s → exec row.2.1 s = .next { s with sp := s.sp + 2, pc := w }) ∧
      (row.2.2 s = true → ∀ f, PopFaults f s → exec row.2.1 s = .fault f) ∧
      (row.2.2 s = false → exec row.2.1 s = .next s)

/-- NOP (R331), DI (R334); HALT's and EI's effects in their dispatch tick (45_system.md R332, R335). -/
def Obligations.NopHaltDiEi : Prop :=
  Row [0x00] .nop 4 4 ∧ Row [0x76] .halt 4 4 ∧ Row [0xF3] .di 4 4 ∧ Row [0xFB] .ei 4 4 ∧
  ∀ s : State,
    exec .nop s = .next s ∧
    exec .halt s = .next { s with halted := true } ∧
    (exec .di s = .next { s with ime := false } ∧ interruptToTake { s with ime := false } = none) ∧
    exec .ei s = .next { s with ime := true }

/-- STOP (R333): a stop by name, no effect. -/
def Obligations.StopIsRefused : Prop :=
  (∀ s : State, exec .stop s = .refused (.stopNotModelled (s.pc - 1))) ∧
  ∀ s m : State, s.nextDraw.quit = false → memoryTick s = .next m → AtBoundary m → memRead m.pc m = .ok 0x10 →
    step s = .refused (.stopNotModelled m.pc)

/-- The illegal opcodes (R337). -/
def Obligations.IllegalBytesAreLogged : Prop :=
  ∀ row ∈ illegalRows, Row [row.1] row.2 4 4 ∧
    ∀ s, exec row.2 s = .next { s with log := (row.1, s.pc - 1) :: s.log }

/-- The 0xCB prefix (45_system.md R336; 30_encoding.md R133, R134). The constructor for the prefix row alone
is the model's choice, log entry 1. -/
def Obligations.PrefixSelectsCbRow : Prop :=
  ∀ b1 : Byte, ∃ i, decode [0xCB, b1] = .ok i ∧ i.wellFormed = true ∧ encode i = [0xCB, b1] ∧
    ∀ s, exec (.prefixCb b1) s = exec i s ∧
      (Readable s s.hl → Writable s s.hl → ∃ t, exec (.prefixCb b1) s = .next t)

/-- `MemRead` and the mirror (R84, R87). -/
def Obligations.MemoryRead : Prop :=
  ∀ (s : State) (a : Word),
    (a.toNat < 0x8000 → a.toNat < s.romBanks * 0x4000 → memRead a s = .ok (s.peek a.toNat)) ∧
    (a.toNat < 0x8000 → s.romBanks * 0x4000 ≤ a.toNat →
      memRead a s = .error (.romIndexOutOfRange a a.toNat ⟨s.reg16 .af, s.bc, s.de, s.hl, s.sp, s.pc⟩)) ∧
    (0x8000 ≤ a.toNat → a.toNat < 0xE000 ∨ 0xFDFF < a.toNat → memRead a s = .ok (s.peek a.toNat)) ∧
    (0xE000 ≤ a.toNat → a.toNat ≤ 0xFDFF → memRead a s = .ok (s.peek (a.toNat - 0x2000))) ∧
    (2 ≤ s.romBanks → ∃ v, memRead a s = .ok v)

/-- `MemWrite`, `rom_write`, `dma_start` and the mirror (R85 to R90). -/
def Obligations.MemoryWrite : Prop :=
  ∀ (s : State) (a : Word) (v : Byte),
    (Writable s a → ∃ t, memWrite a v s = .next t ∧ ByteStored a v s t) ∧
    (¬Writable s a → s.params.romWritePolicy = .store ∧ s.romBanks * 0x4000 ≤ a.toNat ∧ a.toNat < 0x8000 ∧
      memWrite a v s =
        .fault (.romIndexOutOfRange a a.toNat ⟨s.reg16 .af, s.bc, s.de, s.hl, s.sp, s.pc⟩))

/-- `memory_tick` (R91). -/
def Obligations.MemoryTickCopiesOneByte : Prop :=
  ∀ s : State,
    (s.dmaActive = false → memoryTick s = .next s) ∧
    (s.dmaActive = true → ∀ b, memRead s.dmaCursor s = .ok b → ∃ t, memoryTick s = .next t ∧
      t = { s with mem := t.mem, dmaActive := t.dmaActive, dmaCursor := s.dmaCursor + 1 } ∧
      t.peek (0xFE00 + s.dmaCursor.toNat % 0x100) = b ∧
      (∀ n, n ≠ 0xFE00 + s.dmaCursor.toNat % 0x100 → t.peek n = s.peek n) ∧
      t.dmaActive = decide ((s.dmaCursor + 1).toNat % 0x100 ≠ 0xA0)) ∧
    (s.dmaActive = true → ∀ f, memRead s.dmaCursor s = .error f → memoryTick s = .fault f)

/-- The whole copy, seen over the Memory ticks alone (R91). -/
def Obligations.DmaCopiesPageInto160Ticks : Prop :=
  ∀ (s : State) (v : Byte), 2 ≤ s.romBanks → s.dmaActive = true → s.dmaCursor = BitVec.ofNat 16 (v.toNat * 0x100) →
    (∀ n < 160, ∃ t, memoryTicks n s = .next t ∧ t.dmaActive = true) ∧
    ∃ t, memoryTicks 160 s = .next t ∧ t.dmaActive = false ∧
      (∀ k < 160, some (t.peek (0xFE00 + k)) = byteAt (BitVec.ofNat 16 (v.toNat * 0x100 + k)) s) ∧
      ∀ n, n < 0xFE00 ∨ 0xFE9F < n → t.peek n = s.peek n

/-- CPU steps 1 and 2 (R409, R410). -/
def Obligations.HaltAndStall : Prop :=
  ∀ s : State,
    (s.halted = true → s.peek 0xFFFF &&& s.peek 0xFF0F = 0 → cpuTick s = .next { s with executed := false }) ∧
    (s.halted = true → s.peek 0xFFFF &&& s.peek 0xFF0F ≠ 0 → cpuTick s = cpuTick { s with halted := false }) ∧
    (s.halted = false → ∀ n, s.stall = n + 1 → cpuTick s = .next { s with stall := n, executed := false })

/-- CPU step 3's choice and the priority order (60_exceptions.md R411, R420, R421, R423). -/
def Obligations.InterruptPriority : Prop :=
  ∀ s : State,
    (∀ i, interruptToTake s = some i ↔
      s.ime = true ∧ Pending s i ∧ ∀ j, bitOf j < bitOf i → ¬Pending s j) ∧
    (interruptToTake s = none ↔ s.ime = false ∨ ∀ i, ¬Pending s i)

/-- `dispatch(i)` and what follows it in the tick (R422, R424). -/
def Obligations.InterruptDispatch : Prop :=
  ∀ (s : State) (i : Source), CanPush s →
    ∃ u, WordPushed s.pc
        { s.poke 0xFF0F (s.peek 0xFF0F &&& ~~~(BitVec.ofNat 8 (2 ^ bitOf i))) with ime := false } u ∧
      takeInterrupt i s = .next { u with pc := vectorOf i } ∧
      (s.halted = false → s.stall = 0 → interruptToTake s = some i →
        (s.params.intDispatchTicks = 0 → cpuTick s = fetchExecute { u with pc := vectorOf i }) ∧
        ∀ k, s.params.intDispatchTicks = k + 1 →
          cpuTick s = .next { u with pc := vectorOf i, stall := k, executed := false })

/-- The step, in the model's own names, around exec (60_exceptions.md R401, R412, R415). -/
def Obligations.StepRunsDecodedInstruction : Prop :=
  ∀ (s m : State) (op : Byte) (rest : List Byte) (i : Instr),
    s.nextDraw.quit = false → memoryTick s = .next m → AtBoundary m →
    rest.length = operandCount op → AtPc (op :: rest) m → decode (op :: rest) = .ok i →
    step s =
      andThen (exec i { m with pc := m.pc + BitVec.ofNat 16 (rest.length + 1) }) fun t =>
        laterPhases { t with
          stall := costTaken m.params i (taken i { m with pc := m.pc + BitVec.ofNat 16 (rest.length + 1) }) -
            m.params.fetchTicks.val
          executed := true }

/-- The console tick (R401). -/
def Obligations.PhasesInOrder : Prop :=
  ∀ s : State, s.nextDraw.quit = false →
    (∀ m c p, memoryTick s = .next m → cpuTick m = .next c → ppuTick (collaborators c) = .next p →
      step s = .next { p with presented := if p.frameReady then p.frame :: p.presented else p.presented }) ∧
    (∀ f, memoryTick s = .fault f → step s = .fault f) ∧
    (∀ m f, memoryTick s = .next m → cpuTick m = .fault f → step s = .fault f) ∧
    (∀ m r, memoryTick s = .next m → cpuTick m = .refused r → step s = .refused r) ∧
    ∀ m c f, memoryTick s = .next m → cpuTick m = .next c → ppuTick (collaborators c) = .fault f →
      step s = .fault f

/-- The dot and line counters and what the PPU may change (60_exceptions.md R404, R430, R431, R434, R438). -/
def Obligations.PpuCountersAndFrame : Prop :=
  ∀ s : State, s.dot ≤ 455 → SpriteDataPresent s → ∃ t, ppuTick s = .next t ∧
    t = { s with
      mem := t.mem, dot := t.dot, sprites := t.sprites, spriteTall := t.spriteTall
      windowLine := t.windowLine, frames := t.frames, frame := t.frame, frameReady := t.frameReady } ∧
    (∀ n, n ≠ 0xFF0F → n ≠ 0xFF41 → n ≠ 0xFF44 → t.peek n = s.peek n) ∧
    t.dot = (if s.dot = 455 then 0 else s.dot + 1) ∧
    t.peek 0xFF44 = (if s.dot ≠ 455 then s.peek 0xFF44 else if s.peek 0xFF44 = 153 then 0 else s.peek 0xFF44 + 1) ∧
    t.windowLine =
      (if s.dot = 455 ∧ t.peek 0xFF44 = 0 then 0
      else if s.dot = 80 ∧ (s.peek 0xFF44).toNat < 144 ∧ (s.peek 0xFF40).getLsbD 5 = true ∧
          (s.peek 0xFF4A).toNat ≤ (s.peek 0xFF44).toNat ∧ (s.peek 0xFF4B).toNat ≤ 166 then s.windowLine + 1
      else s.windowLine) ∧
    t.frameReady = decide (s.dot = 0 ∧ s.peek 0xFF44 = 144) ∧
    t.frames = (if s.dot = 0 ∧ s.peek 0xFF44 = 144 then s.frames + 1 else s.frames)

/-- `enter_mode` and `coincidence` as writers of STAT (R432, R433); the requests they make are
the next statement's. -/
def Obligations.PpuStatBits : Prop :=
  ∀ s : State, SpriteDataPresent s → ∃ t, ppuTick s = .next t ∧
    (t.peek 0xFF41).extractLsb' 0 2 =
      (if s.dot = 0 ∧ (s.peek 0xFF44).toNat < 144 then 2
      else if s.dot = 80 ∧ (s.peek 0xFF44).toNat < 144 then 3
      else if s.dot = 252 ∧ (s.peek 0xFF44).toNat < 144 then 0
      else if s.dot = 0 ∧ (s.peek 0xFF44).toNat = 144 then 1
      else (s.peek 0xFF41).extractLsb' 0 2) ∧
    (t.peek 0xFF41).getLsbD 2 =
      (if s.dot = 0 then decide (s.peek 0xFF44 = s.peek 0xFF45) else (s.peek 0xFF41).getLsbD 2) ∧
    (t.peek 0xFF41).extractLsb' 3 5 = (s.peek 0xFF41).extractLsb' 3 5

/-- The STAT requests (R435, R436) and the VBLANK request (60_exceptions.md R434). -/
def Obligations.PpuInterruptRequests : Prop :=
  ∀ s : State, SpriteDataPresent s → ∃ t, ppuTick s = .next t ∧
    (t.peek 0xFF0F).getLsbD 0 = ((s.peek 0xFF0F).getLsbD 0 || decide (s.dot = 0 ∧ (s.peek 0xFF44).toNat = 144)) ∧
    (t.peek 0xFF0F).getLsbD 1 = ((s.peek 0xFF0F).getLsbD 1 || decide (
      (s.dot = 0 ∧ (s.peek 0xFF44).toNat < 144 ∧ (s.peek 0xFF41).getLsbD 5 = true) ∨
      (s.dot = 0 ∧ (s.peek 0xFF44).toNat = 144 ∧ (s.peek 0xFF41).getLsbD 4 = true) ∨
      (s.dot = 252 ∧ (s.peek 0xFF44).toNat < 144 ∧ (s.peek 0xFF41).getLsbD 3 = true) ∨
      (s.dot = 0 ∧ s.peek 0xFF44 = s.peek 0xFF45 ∧
        (s.params.lycIrqRequiresEnable = false ∨ (s.peek 0xFF41).getLsbD 6 = true)))) ∧
    ∀ k, 2 ≤ k → (t.peek 0xFF0F).getLsbD k = (s.peek 0xFF0F).getLsbD k

/-- `oam_search` (R437). -/
def Obligations.SpriteSearch : Prop :=
  ∀ s : State, SpriteDataPresent s → ∃ t, ppuTick s = .next t ∧
    (s.dot = 0 → (s.peek 0xFF44).toNat < 144 →
      t.spriteTall = (s.peek 0xFF40).getLsbD 2 ∧ t.sprites.Pairwise (fun i j => i.val < j.val) ∧
      t.sprites.length ≤ 10 ∧
      ∀ i, if oam s i 0 ≤ (s.peek 0xFF44).toNat + 16 ∧
          (s.peek 0xFF44).toNat + 16 < oam s i 0 + (if (s.peek 0xFF40).getLsbD 2 then 16 else 8) then
          i ∈ t.sprites ∨ (t.sprites.length = 10 ∧ ∀ j ∈ t.sprites, j.val < i.val)
        else i ∉ t.sprites) ∧
    (s.dot ≠ 0 ∨ 144 ≤ (s.peek 0xFF44).toNat → t.sprites = s.sprites ∧ t.spriteTall = s.spriteTall)

/-- `render_line` and `bg_pixel` without sprites (R439). -/
def Obligations.BackgroundLine : Prop :=
  ∀ s : State,
    (∀ ly : Fin 144, s.dot = 80 → (s.peek 0xFF44).toNat = ly.val → (s.peek 0xFF40).getLsbD 1 = false →
      ∃ t, ppuTick s = .next t ∧
        (∀ x : Fin 160, t.frame[ly][x].toNat = shadeOf (s.peek 0xFF47) (backgroundIndex s x.val ly.val)) ∧
        ∀ y : Fin 144, y ≠ ly → t.frame[y] = s.frame[y]) ∧
    (s.dot ≠ 80 ∨ 144 ≤ (s.peek 0xFF44).toNat → ∃ t, ppuTick s = .next t ∧ t.frame = s.frame)

/-- The sprite overlay (60_exceptions.md R440). The model's choice, log entry 12 (DEDUCED): the row address of a
sprite, its OAM entry changed after the search included, is computed over the integers and taken modulo 65536. -/
def Obligations.SpriteOverlay : Prop :=
  ∀ (s : State) (ly : Fin 144), SpriteDataPresent s → s.dot = 80 → (s.peek 0xFF44).toNat = ly.val →
    (s.peek 0xFF40).getLsbD 1 = true → ∃ t, ppuTick s = .next t ∧
      (∀ y : Fin 144, y ≠ ly → t.frame[y] = s.frame[y]) ∧
      ∀ x : Fin 160,
        ((∀ i ∈ s.sprites, Covers s x.val i → spriteIndex s x.val ly.val i = 0) →
          t.frame[ly][x].toNat = shadeOf (s.peek 0xFF47) (backgroundIndex s x.val ly.val)) ∧
        ∀ (p : Nat) (i : Fin 40), s.sprites[p]? = some i → Covers s x.val i → spriteIndex s x.val ly.val i ≠ 0 →
          (∀ (q : Nat) (j : Fin 40), q ≠ p → s.sprites[q]? = some j → Covers s x.val j →
            spriteIndex s x.val ly.val j ≠ 0 →
            oam s i 1 < oam s j 1 ∨ (oam s i 1 = oam s j 1 ∧ p < q)) →
          t.frame[ly][x].toNat =
            if (oam s i 3).testBit 7 = false ∨ backgroundIndex s x.val ly.val = 0 then
              shadeOf (s.peek (if (oam s i 3).testBit 4 then 0xFF49 else 0xFF48)) (spriteIndex s x.val ly.val i)
            else shadeOf (s.peek 0xFF47) (backgroundIndex s x.val ly.val)

/-- `input_phase` (R457), `env_phase` (R458) and phase 3 (60_exceptions.md R401). The model's choices: the draws of
the coming ticks are a list, the quiet draw after its end (log entry 4), and the actions of a draw are a list applied
in the order listed (log entry 15). -/
def Obligations.InputAndEnvironment : Prop :=
  ∀ s : State,
    (inputPhase none s = s ∧
      ∀ n : BitVec 4, if n = (s.peek 0xFF00).extractLsb' 0 4 then inputPhase (some n) s = s
        else (inputPhase (some n) s).peek 0xFF00 = (s.peek 0xFF00).extractLsb' 4 4 ++ n ∧
          (inputPhase (some n) s).peek 0xFF0F = s.peek 0xFF0F ||| 0x10 ∧
          (∀ k, k ≠ 0xFF00 → k ≠ 0xFF0F → (inputPhase (some n) s).peek k = s.peek k) ∧
          inputPhase (some n) s = { s with mem := (inputPhase (some n) s).mem }) ∧
    (∀ v : Byte, envAction (.store .sb v) s = s.poke 0xFF01 v ∧ envAction (.store .sc v) s = s.poke 0xFF02 v ∧
      envAction (.store .div v) s = s.poke 0xFF04 v ∧ envAction (.store .tima v) s = s.poke 0xFF05 v ∧
      envAction (.store .tma v) s = s.poke 0xFF06 v ∧ envAction (.store .tac v) s = s.poke 0xFF07 v) ∧
    envAction .requestTimer s = s.poke 0xFF0F (s.peek 0xFF0F ||| 0x04) ∧
    envAction .requestSerial s = s.poke 0xFF0F (s.peek 0xFF0F ||| 0x08) ∧
    ∀ d : List EnvAction, envPhase d s = { s with mem := (envPhase d s).mem } ∧
      (∀ k, k ∉ [0xFF01, 0xFF02, 0xFF04, 0xFF05, 0xFF06, 0xFF07, 0xFF0F] → (envPhase d s).peek k = s.peek k) ∧
      ((envPhase d s).peek 0xFF0F = s.peek 0xFF0F ∨ (envPhase d s).peek 0xFF0F = s.peek 0xFF0F ||| 0x04 ∨
        (envPhase d s).peek 0xFF0F = s.peek 0xFF0F ||| 0x08 ∨ (envPhase d s).peek 0xFF0F = s.peek 0xFF0F ||| 0x0C) ∧
      envPhase [] s = s ∧ (∀ e, envPhase (e :: d) s = envPhase d (envAction e s)) ∧
      (s.draws = [] → collaborators s = s) ∧
      ∀ w r, s.draws = w :: r → collaborators s = { envPhase w.env (inputPhase w.input s) with draws := r }

/-- The register file and the flags (R32, R33, R39). -/
def Obligations.RegisterFile : Prop :=
  ∀ (s : State) (v : Byte) (w : Word),
    (s.setReg8 .b v).bc = v ++ s.reg8 .c ∧ (s.setReg8 .c v).bc = s.reg8 .b ++ v ∧
    (s.setReg8 .d v).de = v ++ s.reg8 .e ∧ (s.setReg8 .e v).de = s.reg8 .d ++ v ∧
    (s.setReg8 .h v).hl = v ++ s.reg8 .l ∧ (s.setReg8 .l v).hl = s.reg8 .h ++ v ∧
    (s.setReg8 .a v).af = v ++ s.reg8 .f ∧ (s.setReg8 .f v).af = s.reg8 .a ++ (v &&& 0xF0) ∧
    (∀ r, (s.setReg16 r w).reg16 r = if r = .af then w &&& 0xFFF0 else w) ∧
    (∀ r q, q ≠ r → (s.setReg16 r w).reg16 q = s.reg16 q) ∧
    (s.reg16 .af &&& 0x000F = 0 ∧ s.reg8 .f &&& 0x0F = 0) ∧
    (s.reg16 .af = s.reg8 .a ++ s.reg8 .f ∧ s.reg16 .bc = s.reg8 .b ++ s.reg8 .c ∧
      s.reg16 .de = s.reg8 .d ++ s.reg8 .e ∧ s.reg16 .hl = s.reg8 .h ++ s.reg8 .l) ∧
    ∀ g : Flags, FlagsWritten g s (s.setFlags g) ∧ ((s.setFlags g).reg8 .f).getLsbD 7 = g.z ∧
      ((s.setFlags g).reg8 .f).getLsbD 6 = g.n ∧ ((s.setFlags g).reg8 .f).getLsbD 5 = g.h ∧
      ((s.setFlags g).reg8 .f).getLsbD 4 = g.c

/-- Reset (R501, R502; the spec's decisions D5 and D6 behind R503 and R504). -/
def Obligations.ResetState : Prop :=
  State.reset.af = 0x01B0 ∧ State.reset.bc = 0x0013 ∧ State.reset.de = 0x00D8 ∧ State.reset.hl = 0x014D ∧
  State.reset.sp = 0xFFFE ∧ State.reset.pc = 0x0100 ∧
  State.reset.ime = false ∧ State.reset.halted = false ∧ State.reset.stall = 0 ∧
  (∀ a : Word, 0x8000 ≤ a.toNat → memRead a State.reset = .ok 0x00) ∧
  State.reset.dmaActive = false ∧ State.reset.dmaCursor = 0x0000 ∧ State.reset.dot = 0 ∧
  State.reset.sprites = [] ∧ State.reset.windowLine = 0 ∧ State.reset.frames = 0

/-- The cartridge load (R82, R455); HI_INIT by 70_reset_and_hazards.md R503. -/
def Obligations.LaunchLoadsCartridge : Prop :=
  ∀ (rom hiInit : List Byte) (p : Params) (d : List Draw),
    (rom.length = 0 ∨ rom.length % 0x4000 ≠ 0 →
      launch rom hiInit p d = .fault (.malformedCartridge rom.length)) ∧
    (rom.length ≠ 0 → rom.length % 0x4000 = 0 → ∃ t, launch rom hiInit p d = .next t ∧
      t = { State.reset with mem := t.mem, romBanks := rom.length / 0x4000, params := p, draws := d } ∧
      Memory.wf t.mem ∧
      (∀ a : Word, a.toNat < 0x8000 → memRead a t = if h : a.toNat < rom.length then .ok rom[a.toNat]
        else .error (.romIndexOutOfRange a a.toNat ⟨0x01B0, 0x0013, 0x00D8, 0x014D, 0xFFFE, 0x0100⟩)) ∧
      ∀ a : Word, 0x8000 ≤ a.toNat → a.toNat < 0xE000 ∨ 0xFDFF < a.toNat →
        memRead a t = .ok (hiInit.getD (a.toNat - 0x8000) 0x00))

/-- Sample words of the opcode maps (30_encoding.md R122, R132, R133). The two decodeTableWord clauses are the model's
choice, log entry 2 (DEDUCED): how the opcode table numbers the bits of a word. -/
def Obligations.DecodeWords : Prop :=
  decode [0x41] = .ok .ldBC ∧ decode [0x21, 0x34, 0x12] = .ok (.ldHlD16 0x1234) ∧
  decode [0x3E, 0x9F] = .ok (.ldAD8 0x9F) ∧ decode [0xE0, 0x0F] = .ok (.ldhAtA8A 0x0F) ∧
  decode [0xF5] = .ok .pushAf ∧ decode [0x8E] = .ok .adcAAtHl ∧ decode [0xFE, 0x2F] = .ok (.cpD8 0x2F) ∧
  decode [0x29] = .ok .addHlHl ∧ decode [0x1F] = .ok .rra ∧ decode [0xCB, 0x7C] = .ok .bit7H ∧
  decode [0xCB, 0xDE] = .ok .set3AtHl ∧ decode [0x20, 0xFD] = .ok (.jrNzE8 0xFD) ∧
  decode [0xCD, 0x78, 0x56] = .ok (.callA16 0x5678) ∧ decode [0xD3] = .ok .illegalD3 ∧
  decodeTableWord 24 0x5678CD = some (.callA16 0x5678) ∧ decodeTableWord 16 0xCB7C = some .bit7H

/-- Decode and encode agree (30_encoding.md R121, R122, R129, R132 to R134). -/
def Obligations.DecodeEncode : Prop :=
  ∀ (i : Instr) (rest : List Byte), i.wellFormed = true → decode (encode i ++ rest) = .ok i

/-- The decoder is total and one to one (R134). -/
def Obligations.DecoderIsTotal : Prop :=
  ∀ (op : Byte) (rest : List Byte), operandCount op ≤ rest.length →
    ∃ i, decode (op :: rest) = .ok i ∧ i.wellFormed = true ∧
      (op ≠ 0x10 → encode i = op :: rest.take (operandCount op))

/-- The invariant of Safety.lean at reset. -/
def Obligations.ResetInvariant : Prop :=
  State.reset.Inv

/-- The invariant of Safety.lean is kept by every console tick. -/
def Obligations.StepKeepsInvariant : Prop :=
  ∀ s t : State, s.Inv → step s = .next t → t.Inv

/-- The stops of the machine (20_memory.md R84; 45_system.md R333, R338; 60_exceptions.md R402, R441, R460). The
clause on Quit is the model's choice, log entry 13 (DESIGN CHOICE): a refusal, asked for by a flag of the draw. -/
def Obligations.StepStopsOnlyForCause : Prop :=
  (∀ s : State, 2 ≤ s.romBanks → ∀ f, step s ≠ .fault f) ∧
  (∀ (s : State) (f : Fault), step s = .fault f →
    ∃ a g, f = .romIndexOutOfRange a a.toNat g ∧ a.toNat < 0x8000 ∧ s.romBanks * 0x4000 ≤ a.toNat) ∧
  (∀ (i : Instr) (s : State), (∃ r, exec i s = .refused r) ↔ i = .stop) ∧
  (∀ s : State, step s = .refused .quit ↔ s.nextDraw.quit = true) ∧
  ∀ (s : State) (m : String), step s ≠ .refused (.notModelled m)

/-- Bytes that no program can change (10_state.md R56, R57; 20_memory.md R82, R86, R89, R90). -/
def Obligations.ProtectedBytes : Prop :=
  ∀ s t : State,
    (step s = .next t →
      (s.params.romWritePolicy = .ignore → ∀ n < 0x8000, t.peek n = s.peek n) ∧
      t.peek 0xFF46 = s.peek 0xFF46) ∧
    (cpuTick s = .next t → t.peek 0xFF00 &&& 0x0F = s.peek 0xFF00 &&& 0x0F)

/-- The writers of IME and `halted` (R44, R45). -/
def Obligations.ImeAndHaltedWriters : Prop :=
  (∀ (i : Instr) (s t : State), exec i s = .next t →
    t.ime = (if i = .di then false else if i = .ei ∨ i = .reti then true else s.ime) ∧
    t.halted = (if i = .halt then true else s.halted)) ∧
  (∀ s t : State, memoryTick s = .next t → t.ime = s.ime ∧ t.halted = s.halted) ∧
  (∀ s : State, (collaborators s).ime = s.ime ∧ (collaborators s).halted = s.halted) ∧
  (∀ s t : State, ppuTick s = .next t → t.ime = s.ime ∧ t.halted = s.halted) ∧
  (∀ (i : Source) (s t : State), takeInterrupt i s = .next t → t.ime = false ∧ t.halted = s.halted) ∧
  ∀ s t : State, cpuTick s = .next t → s.halted = true → t.halted = false →
    s.peek 0xFFFF &&& s.peek 0xFF0F ≠ 0

/-- The pixels never feed back (00_scope.md R5; 10_state.md R65; 60_exceptions.md R405). -/
def Obligations.PicturesNeverFeedBack : Prop :=
  ∀ (s : State) (f : Frame) (p : List Frame),
    picturesErased (step (withoutPictures s f p)) = picturesErased (step s)

/-- The debugger's requests (60_exceptions.md R403, R459, R460). The model's choices, log entry 19 (DESIGN CHOICE):
the requests are functions of a state, those that run ticks take a bound on their number, at most one breakpoint is
set, and ResumeContinuous from a state stopped at its breakpoint runs no tick. -/
def Obligations.DebuggerRequests : Prop :=
  ∀ s : State,
    (∀ b, breaksOnOpcode b s = true →
      ∃ t, byteAt t.pc t = some b ∧ step s = andThen (fetchExecute t) laterPhases) ∧
    (∀ t, step s = .next t → t.executed = true →
      ∃ b, breaksOnOpcode b s = true ∧ ∀ c, breaksOnOpcode c s = true → c = b) ∧
    (∀ a, step s = .refused (.stopNotModelled a) → breaksOnOpcode 0x10 s = true) ∧
    readRegisterSnapshot s = ⟨s.reg16 .af, s.bc, s.de, s.hl, s.sp, s.pc⟩ ∧
    readNextThreeBytesAtPc s = [0, 1, 2].map (fun k => (byteAt (s.pc + k) s).getD 0xFF) ∧
    ∀ n : Nat,
      (∀ t, step s = .next t →
        stepOneInstruction (n + 1) s = (if t.executed then .next t else stepOneInstruction n t) ∧
        resumeContinuous none (n + 1) s = resumeContinuous none n t ∧
        ∀ b, resumeContinuous (some b) (n + 1) s =
          if breaksOnOpcode b s then .next s else resumeContinuous (some b) n t) ∧
      ((∀ t, step s ≠ .next t) → stepOneInstruction (n + 1) s = step s ∧ resumeContinuous none (n + 1) s = step s ∧
        ∀ b, resumeContinuous (some b) (n + 1) s = if breaksOnOpcode b s then .next s else step s)
end

