-- ==== Sys2Proof/Laws/Debug.lean ====
section
/-! SUPPORT. What the debugger's look ahead says of the tick it looks at. -/

namespace Sys2Proof.Machine

/-- Where step 4 of the next tick begins in `t`, that tick is the fetch and execution from `t` and the later phases. -/
theorem consoleTick_of_stateAtFetch {s t : State} (h : stateAtFetch s = some t) :
    consoleTick s = andThen (fetchExecute t) laterPhases := by
  unfold stateAtFetch at h
  unfold consoleTick
  split at h
  · cases h
  · rename_i hq
    rw [if_neg hq]
    cases hm : memoryTick s with
    | fault f => rw [hm] at h; cases h
    | refused r => rw [hm] at h; cases h
    | next m =>
      rw [hm] at h
      simp only at h
      show andThen (cpuTick m) laterPhases = _
      congr 1
      split at h
      · cases h
      · rename_i hh
        split at h
        · cases h
        · rename_i hst
          have hc : cpuTick m = interruptStep { m with halted := false } := by
            unfold cpuTick stallStep
            cases hm : m.halted with
            | true => rw [if_pos rfl, if_neg fun q => hh ⟨hm, q⟩, if_neg hst]
            | false => rw [if_neg nofun, if_neg hst, ← hm]
          rw [hc]
          unfold interruptStep
          revert h
          cases interruptToTake { m with halted := false } with
          | none => intro h; cases h; rfl
          | some i =>
            simp only
            cases takeInterrupt i { m with halted := false } with
            | fault f => exact nofun
            | refused r => exact nofun
            | next v =>
              intro h
              simp only at h
              by_cases hd : v.params.intDispatchTicks > 0
              · rw [if_pos hd] at h; cases h
              · rw [if_neg hd] at h
                cases h
                exact if_neg hd

/-- The breakpoint on `b` stops the console exactly where the next tick's step 4 fetches `b`. -/
theorem breaksOnOpcode_iff {b : Byte} {s : State} :
    breaksOnOpcode b s = true ↔ ∃ t, stateAtFetch s = some t ∧ memRead t.pc t = .ok b := by
  unfold breaksOnOpcode fetch8
  cases stateAtFetch s with
  | none => exact ⟨nofun, nofun⟩
  | some t => cases h : memRead t.pc t <;> simp [h]

end Sys2Proof.Machine
end

