-- ==== Sys2Proof/Laws/Exec.lean ====
section
/-! SUPPORT. `exec`, one equation per constructor: its meaning, which `simp` unfolds further to the shared
operation it is. A proof about an instruction goes on with the laws of the operations. -/

namespace Sys2Proof.Machine

@[simp] theorem exec_nop (s : State) : exec .nop s = execNop s := rfl
@[simp] theorem exec_ldBcD16 (n : Word) (s : State) : exec (.ldBcD16 n) s = execLdBcD16 n s := rfl
@[simp] theorem exec_ldAtBcA (s : State) : exec .ldAtBcA s = execLdAtBcA s := rfl
@[simp] theorem exec_incBc (s : State) : exec .incBc s = execIncBc s := rfl
@[simp] theorem exec_incB (s : State) : exec .incB s = execIncB s := rfl
@[simp] theorem exec_decB (s : State) : exec .decB s = execDecB s := rfl
@[simp] theorem exec_ldBD8 (n : Byte) (s : State) : exec (.ldBD8 n) s = execLdBD8 n s := rfl
@[simp] theorem exec_rlca (s : State) : exec .rlca s = execRlca s := rfl
@[simp] theorem exec_ldAtA16Sp (a : Word) (s : State) : exec (.ldAtA16Sp a) s = execLdAtA16Sp a s := rfl
@[simp] theorem exec_addHlBc (s : State) : exec .addHlBc s = execAddHlBc s := rfl
@[simp] theorem exec_ldAAtBc (s : State) : exec .ldAAtBc s = execLdAAtBc s := rfl
@[simp] theorem exec_decBc (s : State) : exec .decBc s = execDecBc s := rfl
@[simp] theorem exec_incC (s : State) : exec .incC s = execIncC s := rfl
@[simp] theorem exec_decC (s : State) : exec .decC s = execDecC s := rfl
@[simp] theorem exec_ldCD8 (n : Byte) (s : State) : exec (.ldCD8 n) s = execLdCD8 n s := rfl
@[simp] theorem exec_rrca (s : State) : exec .rrca s = execRrca s := rfl
@[simp] theorem exec_stop (s : State) : exec .stop s = execStop s := rfl
@[simp] theorem exec_ldDeD16 (n : Word) (s : State) : exec (.ldDeD16 n) s = execLdDeD16 n s := rfl
@[simp] theorem exec_ldAtDeA (s : State) : exec .ldAtDeA s = execLdAtDeA s := rfl
@[simp] theorem exec_incDe (s : State) : exec .incDe s = execIncDe s := rfl
@[simp] theorem exec_incD (s : State) : exec .incD s = execIncD s := rfl
@[simp] theorem exec_decD (s : State) : exec .decD s = execDecD s := rfl
@[simp] theorem exec_ldDD8 (n : Byte) (s : State) : exec (.ldDD8 n) s = execLdDD8 n s := rfl
@[simp] theorem exec_rla (s : State) : exec .rla s = execRla s := rfl
@[simp] theorem exec_jrE8 (n : Byte) (s : State) : exec (.jrE8 n) s = execJrE8 n s := rfl
@[simp] theorem exec_addHlDe (s : State) : exec .addHlDe s = execAddHlDe s := rfl
@[simp] theorem exec_ldAAtDe (s : State) : exec .ldAAtDe s = execLdAAtDe s := rfl
@[simp] theorem exec_decDe (s : State) : exec .decDe s = execDecDe s := rfl
@[simp] theorem exec_incE (s : State) : exec .incE s = execIncE s := rfl
@[simp] theorem exec_decE (s : State) : exec .decE s = execDecE s := rfl
@[simp] theorem exec_ldED8 (n : Byte) (s : State) : exec (.ldED8 n) s = execLdED8 n s := rfl
@[simp] theorem exec_rra (s : State) : exec .rra s = execRra s := rfl
@[simp] theorem exec_jrNzE8 (n : Byte) (s : State) : exec (.jrNzE8 n) s = execJrNzE8 n s := rfl
@[simp] theorem exec_ldHlD16 (n : Word) (s : State) : exec (.ldHlD16 n) s = execLdHlD16 n s := rfl
@[simp] theorem exec_ldAtHlIncA (s : State) : exec .ldAtHlIncA s = execLdAtHlIncA s := rfl
@[simp] theorem exec_incHl (s : State) : exec .incHl s = execIncHl s := rfl
@[simp] theorem exec_incH (s : State) : exec .incH s = execIncH s := rfl
@[simp] theorem exec_decH (s : State) : exec .decH s = execDecH s := rfl
@[simp] theorem exec_ldHD8 (n : Byte) (s : State) : exec (.ldHD8 n) s = execLdHD8 n s := rfl
@[simp] theorem exec_daa (s : State) : exec .daa s = execDaa s := rfl
@[simp] theorem exec_jrZE8 (n : Byte) (s : State) : exec (.jrZE8 n) s = execJrZE8 n s := rfl
@[simp] theorem exec_addHlHl (s : State) : exec .addHlHl s = execAddHlHl s := rfl
@[simp] theorem exec_ldAAtHlInc (s : State) : exec .ldAAtHlInc s = execLdAAtHlInc s := rfl
@[simp] theorem exec_decHl (s : State) : exec .decHl s = execDecHl s := rfl
@[simp] theorem exec_incL (s : State) : exec .incL s = execIncL s := rfl
@[simp] theorem exec_decL (s : State) : exec .decL s = execDecL s := rfl
@[simp] theorem exec_ldLD8 (n : Byte) (s : State) : exec (.ldLD8 n) s = execLdLD8 n s := rfl
@[simp] theorem exec_cpl (s : State) : exec .cpl s = execCpl s := rfl
@[simp] theorem exec_jrNcE8 (n : Byte) (s : State) : exec (.jrNcE8 n) s = execJrNcE8 n s := rfl
@[simp] theorem exec_ldSpD16 (n : Word) (s : State) : exec (.ldSpD16 n) s = execLdSpD16 n s := rfl
@[simp] theorem exec_ldAtHlDecA (s : State) : exec .ldAtHlDecA s = execLdAtHlDecA s := rfl
@[simp] theorem exec_incSp (s : State) : exec .incSp s = execIncSp s := rfl
@[simp] theorem exec_incAtHl (s : State) : exec .incAtHl s = execIncAtHl s := rfl
@[simp] theorem exec_decAtHl (s : State) : exec .decAtHl s = execDecAtHl s := rfl
@[simp] theorem exec_ldAtHlD8 (n : Byte) (s : State) : exec (.ldAtHlD8 n) s = execLdAtHlD8 n s := rfl
@[simp] theorem exec_scf (s : State) : exec .scf s = execScf s := rfl
@[simp] theorem exec_jrCE8 (n : Byte) (s : State) : exec (.jrCE8 n) s = execJrCE8 n s := rfl
@[simp] theorem exec_addHlSp (s : State) : exec .addHlSp s = execAddHlSp s := rfl
@[simp] theorem exec_ldAAtHlDec (s : State) : exec .ldAAtHlDec s = execLdAAtHlDec s := rfl
@[simp] theorem exec_decSp (s : State) : exec .decSp s = execDecSp s := rfl
@[simp] theorem exec_incA (s : State) : exec .incA s = execIncA s := rfl
@[simp] theorem exec_decA (s : State) : exec .decA s = execDecA s := rfl
@[simp] theorem exec_ldAD8 (n : Byte) (s : State) : exec (.ldAD8 n) s = execLdAD8 n s := rfl
@[simp] theorem exec_ccf (s : State) : exec .ccf s = execCcf s := rfl
@[simp] theorem exec_ldBB (s : State) : exec .ldBB s = execLdBB s := rfl
@[simp] theorem exec_ldBC (s : State) : exec .ldBC s = execLdBC s := rfl
@[simp] theorem exec_ldBD (s : State) : exec .ldBD s = execLdBD s := rfl
@[simp] theorem exec_ldBE (s : State) : exec .ldBE s = execLdBE s := rfl
@[simp] theorem exec_ldBH (s : State) : exec .ldBH s = execLdBH s := rfl
@[simp] theorem exec_ldBL (s : State) : exec .ldBL s = execLdBL s := rfl
@[simp] theorem exec_ldBAtHl (s : State) : exec .ldBAtHl s = execLdBAtHl s := rfl
@[simp] theorem exec_ldBA (s : State) : exec .ldBA s = execLdBA s := rfl
@[simp] theorem exec_ldCB (s : State) : exec .ldCB s = execLdCB s := rfl
@[simp] theorem exec_ldCC (s : State) : exec .ldCC s = execLdCC s := rfl
@[simp] theorem exec_ldCD (s : State) : exec .ldCD s = execLdCD s := rfl
@[simp] theorem exec_ldCE (s : State) : exec .ldCE s = execLdCE s := rfl
@[simp] theorem exec_ldCH (s : State) : exec .ldCH s = execLdCH s := rfl
@[simp] theorem exec_ldCL (s : State) : exec .ldCL s = execLdCL s := rfl
@[simp] theorem exec_ldCAtHl (s : State) : exec .ldCAtHl s = execLdCAtHl s := rfl
@[simp] theorem exec_ldCA (s : State) : exec .ldCA s = execLdCA s := rfl
@[simp] theorem exec_ldDB (s : State) : exec .ldDB s = execLdDB s := rfl
@[simp] theorem exec_ldDC (s : State) : exec .ldDC s = execLdDC s := rfl
@[simp] theorem exec_ldDD (s : State) : exec .ldDD s = execLdDD s := rfl
@[simp] theorem exec_ldDE (s : State) : exec .ldDE s = execLdDE s := rfl
@[simp] theorem exec_ldDH (s : State) : exec .ldDH s = execLdDH s := rfl
@[simp] theorem exec_ldDL (s : State) : exec .ldDL s = execLdDL s := rfl
@[simp] theorem exec_ldDAtHl (s : State) : exec .ldDAtHl s = execLdDAtHl s := rfl
@[simp] theorem exec_ldDA (s : State) : exec .ldDA s = execLdDA s := rfl
@[simp] theorem exec_ldEB (s : State) : exec .ldEB s = execLdEB s := rfl
@[simp] theorem exec_ldEC (s : State) : exec .ldEC s = execLdEC s := rfl
@[simp] theorem exec_ldED (s : State) : exec .ldED s = execLdED s := rfl
@[simp] theorem exec_ldEE (s : State) : exec .ldEE s = execLdEE s := rfl
@[simp] theorem exec_ldEH (s : State) : exec .ldEH s = execLdEH s := rfl
@[simp] theorem exec_ldEL (s : State) : exec .ldEL s = execLdEL s := rfl
@[simp] theorem exec_ldEAtHl (s : State) : exec .ldEAtHl s = execLdEAtHl s := rfl
@[simp] theorem exec_ldEA (s : State) : exec .ldEA s = execLdEA s := rfl
@[simp] theorem exec_ldHB (s : State) : exec .ldHB s = execLdHB s := rfl
@[simp] theorem exec_ldHC (s : State) : exec .ldHC s = execLdHC s := rfl
@[simp] theorem exec_ldHD (s : State) : exec .ldHD s = execLdHD s := rfl
@[simp] theorem exec_ldHE (s : State) : exec .ldHE s = execLdHE s := rfl
@[simp] theorem exec_ldHH (s : State) : exec .ldHH s = execLdHH s := rfl
@[simp] theorem exec_ldHL (s : State) : exec .ldHL s = execLdHL s := rfl
@[simp] theorem exec_ldHAtHl (s : State) : exec .ldHAtHl s = execLdHAtHl s := rfl
@[simp] theorem exec_ldHA (s : State) : exec .ldHA s = execLdHA s := rfl
@[simp] theorem exec_ldLB (s : State) : exec .ldLB s = execLdLB s := rfl
@[simp] theorem exec_ldLC (s : State) : exec .ldLC s = execLdLC s := rfl
@[simp] theorem exec_ldLD (s : State) : exec .ldLD s = execLdLD s := rfl
@[simp] theorem exec_ldLE (s : State) : exec .ldLE s = execLdLE s := rfl
@[simp] theorem exec_ldLH (s : State) : exec .ldLH s = execLdLH s := rfl
@[simp] theorem exec_ldLL (s : State) : exec .ldLL s = execLdLL s := rfl
@[simp] theorem exec_ldLAtHl (s : State) : exec .ldLAtHl s = execLdLAtHl s := rfl
@[simp] theorem exec_ldLA (s : State) : exec .ldLA s = execLdLA s := rfl
@[simp] theorem exec_ldAtHlB (s : State) : exec .ldAtHlB s = execLdAtHlB s := rfl
@[simp] theorem exec_ldAtHlC (s : State) : exec .ldAtHlC s = execLdAtHlC s := rfl
@[simp] theorem exec_ldAtHlD (s : State) : exec .ldAtHlD s = execLdAtHlD s := rfl
@[simp] theorem exec_ldAtHlE (s : State) : exec .ldAtHlE s = execLdAtHlE s := rfl
@[simp] theorem exec_ldAtHlH (s : State) : exec .ldAtHlH s = execLdAtHlH s := rfl
@[simp] theorem exec_ldAtHlL (s : State) : exec .ldAtHlL s = execLdAtHlL s := rfl
@[simp] theorem exec_halt (s : State) : exec .halt s = execHalt s := rfl
@[simp] theorem exec_ldAtHlA (s : State) : exec .ldAtHlA s = execLdAtHlA s := rfl
@[simp] theorem exec_ldAB (s : State) : exec .ldAB s = execLdAB s := rfl
@[simp] theorem exec_ldAC (s : State) : exec .ldAC s = execLdAC s := rfl
@[simp] theorem exec_ldAD (s : State) : exec .ldAD s = execLdAD s := rfl
@[simp] theorem exec_ldAE (s : State) : exec .ldAE s = execLdAE s := rfl
@[simp] theorem exec_ldAH (s : State) : exec .ldAH s = execLdAH s := rfl
@[simp] theorem exec_ldAL (s : State) : exec .ldAL s = execLdAL s := rfl
@[simp] theorem exec_ldAAtHl (s : State) : exec .ldAAtHl s = execLdAAtHl s := rfl
@[simp] theorem exec_ldAA (s : State) : exec .ldAA s = execLdAA s := rfl
@[simp] theorem exec_addAB (s : State) : exec .addAB s = execAddAB s := rfl
@[simp] theorem exec_addAC (s : State) : exec .addAC s = execAddAC s := rfl
@[simp] theorem exec_addAD (s : State) : exec .addAD s = execAddAD s := rfl
@[simp] theorem exec_addAE (s : State) : exec .addAE s = execAddAE s := rfl
@[simp] theorem exec_addAH (s : State) : exec .addAH s = execAddAH s := rfl
@[simp] theorem exec_addAL (s : State) : exec .addAL s = execAddAL s := rfl
@[simp] theorem exec_addAAtHl (s : State) : exec .addAAtHl s = execAddAAtHl s := rfl
@[simp] theorem exec_addAA (s : State) : exec .addAA s = execAddAA s := rfl
@[simp] theorem exec_adcAB (s : State) : exec .adcAB s = execAdcAB s := rfl
@[simp] theorem exec_adcAC (s : State) : exec .adcAC s = execAdcAC s := rfl
@[simp] theorem exec_adcAD (s : State) : exec .adcAD s = execAdcAD s := rfl
@[simp] theorem exec_adcAE (s : State) : exec .adcAE s = execAdcAE s := rfl
@[simp] theorem exec_adcAH (s : State) : exec .adcAH s = execAdcAH s := rfl
@[simp] theorem exec_adcAL (s : State) : exec .adcAL s = execAdcAL s := rfl
@[simp] theorem exec_adcAAtHl (s : State) : exec .adcAAtHl s = execAdcAAtHl s := rfl
@[simp] theorem exec_adcAA (s : State) : exec .adcAA s = execAdcAA s := rfl
@[simp] theorem exec_subB (s : State) : exec .subB s = execSubB s := rfl
@[simp] theorem exec_subC (s : State) : exec .subC s = execSubC s := rfl
@[simp] theorem exec_subD (s : State) : exec .subD s = execSubD s := rfl
@[simp] theorem exec_subE (s : State) : exec .subE s = execSubE s := rfl
@[simp] theorem exec_subH (s : State) : exec .subH s = execSubH s := rfl
@[simp] theorem exec_subL (s : State) : exec .subL s = execSubL s := rfl
@[simp] theorem exec_subAtHl (s : State) : exec .subAtHl s = execSubAtHl s := rfl
@[simp] theorem exec_subA (s : State) : exec .subA s = execSubA s := rfl
@[simp] theorem exec_sbcAB (s : State) : exec .sbcAB s = execSbcAB s := rfl
@[simp] theorem exec_sbcAC (s : State) : exec .sbcAC s = execSbcAC s := rfl
@[simp] theorem exec_sbcAD (s : State) : exec .sbcAD s = execSbcAD s := rfl
@[simp] theorem exec_sbcAE (s : State) : exec .sbcAE s = execSbcAE s := rfl
@[simp] theorem exec_sbcAH (s : State) : exec .sbcAH s = execSbcAH s := rfl
@[simp] theorem exec_sbcAL (s : State) : exec .sbcAL s = execSbcAL s := rfl
@[simp] theorem exec_sbcAAtHl (s : State) : exec .sbcAAtHl s = execSbcAAtHl s := rfl
@[simp] theorem exec_sbcAA (s : State) : exec .sbcAA s = execSbcAA s := rfl
@[simp] theorem exec_andB (s : State) : exec .andB s = execAndB s := rfl
@[simp] theorem exec_andC (s : State) : exec .andC s = execAndC s := rfl
@[simp] theorem exec_andD (s : State) : exec .andD s = execAndD s := rfl
@[simp] theorem exec_andE (s : State) : exec .andE s = execAndE s := rfl
@[simp] theorem exec_andH (s : State) : exec .andH s = execAndH s := rfl
@[simp] theorem exec_andL (s : State) : exec .andL s = execAndL s := rfl
@[simp] theorem exec_andAtHl (s : State) : exec .andAtHl s = execAndAtHl s := rfl
@[simp] theorem exec_andA (s : State) : exec .andA s = execAndA s := rfl
@[simp] theorem exec_xorB (s : State) : exec .xorB s = execXorB s := rfl
@[simp] theorem exec_xorC (s : State) : exec .xorC s = execXorC s := rfl
@[simp] theorem exec_xorD (s : State) : exec .xorD s = execXorD s := rfl
@[simp] theorem exec_xorE (s : State) : exec .xorE s = execXorE s := rfl
@[simp] theorem exec_xorH (s : State) : exec .xorH s = execXorH s := rfl
@[simp] theorem exec_xorL (s : State) : exec .xorL s = execXorL s := rfl
@[simp] theorem exec_xorAtHl (s : State) : exec .xorAtHl s = execXorAtHl s := rfl
@[simp] theorem exec_xorA (s : State) : exec .xorA s = execXorA s := rfl
@[simp] theorem exec_orB (s : State) : exec .orB s = execOrB s := rfl
@[simp] theorem exec_orC (s : State) : exec .orC s = execOrC s := rfl
@[simp] theorem exec_orD (s : State) : exec .orD s = execOrD s := rfl
@[simp] theorem exec_orE (s : State) : exec .orE s = execOrE s := rfl
@[simp] theorem exec_orH (s : State) : exec .orH s = execOrH s := rfl
@[simp] theorem exec_orL (s : State) : exec .orL s = execOrL s := rfl
@[simp] theorem exec_orAtHl (s : State) : exec .orAtHl s = execOrAtHl s := rfl
@[simp] theorem exec_orA (s : State) : exec .orA s = execOrA s := rfl
@[simp] theorem exec_cpB (s : State) : exec .cpB s = execCpB s := rfl
@[simp] theorem exec_cpC (s : State) : exec .cpC s = execCpC s := rfl
@[simp] theorem exec_cpD (s : State) : exec .cpD s = execCpD s := rfl
@[simp] theorem exec_cpE (s : State) : exec .cpE s = execCpE s := rfl
@[simp] theorem exec_cpH (s : State) : exec .cpH s = execCpH s := rfl
@[simp] theorem exec_cpL (s : State) : exec .cpL s = execCpL s := rfl
@[simp] theorem exec_cpAtHl (s : State) : exec .cpAtHl s = execCpAtHl s := rfl
@[simp] theorem exec_cpA (s : State) : exec .cpA s = execCpA s := rfl
@[simp] theorem exec_retNz (s : State) : exec .retNz s = execRetNz s := rfl
@[simp] theorem exec_popBc (s : State) : exec .popBc s = execPopBc s := rfl
@[simp] theorem exec_jpNzA16 (a : Word) (s : State) : exec (.jpNzA16 a) s = execJpNzA16 a s := rfl
@[simp] theorem exec_jpA16 (a : Word) (s : State) : exec (.jpA16 a) s = execJpA16 a s := rfl
@[simp] theorem exec_callNzA16 (a : Word) (s : State) : exec (.callNzA16 a) s = execCallNzA16 a s := rfl
@[simp] theorem exec_pushBc (s : State) : exec .pushBc s = execPushBc s := rfl
@[simp] theorem exec_addAD8 (n : Byte) (s : State) : exec (.addAD8 n) s = execAddAD8 n s := rfl
@[simp] theorem exec_rst00 (s : State) : exec .rst00 s = execRst00 s := rfl
@[simp] theorem exec_retZ (s : State) : exec .retZ s = execRetZ s := rfl
@[simp] theorem exec_ret (s : State) : exec .ret s = execRet s := rfl
@[simp] theorem exec_jpZA16 (a : Word) (s : State) : exec (.jpZA16 a) s = execJpZA16 a s := rfl
@[simp] theorem exec_prefixCb (n : Byte) (s : State) : exec (.prefixCb n) s = execPrefixCb n s := rfl
@[simp] theorem exec_callZA16 (a : Word) (s : State) : exec (.callZA16 a) s = execCallZA16 a s := rfl
@[simp] theorem exec_callA16 (a : Word) (s : State) : exec (.callA16 a) s = execCallA16 a s := rfl
@[simp] theorem exec_adcAD8 (n : Byte) (s : State) : exec (.adcAD8 n) s = execAdcAD8 n s := rfl
@[simp] theorem exec_rst08 (s : State) : exec .rst08 s = execRst08 s := rfl
@[simp] theorem exec_retNc (s : State) : exec .retNc s = execRetNc s := rfl
@[simp] theorem exec_popDe (s : State) : exec .popDe s = execPopDe s := rfl
@[simp] theorem exec_jpNcA16 (a : Word) (s : State) : exec (.jpNcA16 a) s = execJpNcA16 a s := rfl
@[simp] theorem exec_illegalD3 (s : State) : exec .illegalD3 s = execIllegalD3 s := rfl
@[simp] theorem exec_callNcA16 (a : Word) (s : State) : exec (.callNcA16 a) s = execCallNcA16 a s := rfl
@[simp] theorem exec_pushDe (s : State) : exec .pushDe s = execPushDe s := rfl
@[simp] theorem exec_subD8 (n : Byte) (s : State) : exec (.subD8 n) s = execSubD8 n s := rfl
@[simp] theorem exec_rst10 (s : State) : exec .rst10 s = execRst10 s := rfl
@[simp] theorem exec_retC (s : State) : exec .retC s = execRetC s := rfl
@[simp] theorem exec_reti (s : State) : exec .reti s = execReti s := rfl
@[simp] theorem exec_jpCA16 (a : Word) (s : State) : exec (.jpCA16 a) s = execJpCA16 a s := rfl
@[simp] theorem exec_illegalDB (s : State) : exec .illegalDB s = execIllegalDB s := rfl
@[simp] theorem exec_callCA16 (a : Word) (s : State) : exec (.callCA16 a) s = execCallCA16 a s := rfl
@[simp] theorem exec_illegalDD (s : State) : exec .illegalDD s = execIllegalDD s := rfl
@[simp] theorem exec_sbcAD8 (n : Byte) (s : State) : exec (.sbcAD8 n) s = execSbcAD8 n s := rfl
@[simp] theorem exec_rst18 (s : State) : exec .rst18 s = execRst18 s := rfl
@[simp] theorem exec_ldhAtA8A (n : Byte) (s : State) : exec (.ldhAtA8A n) s = execLdhAtA8A n s := rfl
@[simp] theorem exec_popHl (s : State) : exec .popHl s = execPopHl s := rfl
@[simp] theorem exec_ldAtCA (s : State) : exec .ldAtCA s = execLdAtCA s := rfl
@[simp] theorem exec_illegalE3 (s : State) : exec .illegalE3 s = execIllegalE3 s := rfl
@[simp] theorem exec_illegalE4 (s : State) : exec .illegalE4 s = execIllegalE4 s := rfl
@[simp] theorem exec_pushHl (s : State) : exec .pushHl s = execPushHl s := rfl
@[simp] theorem exec_andD8 (n : Byte) (s : State) : exec (.andD8 n) s = execAndD8 n s := rfl
@[simp] theorem exec_rst20 (s : State) : exec .rst20 s = execRst20 s := rfl
@[simp] theorem exec_addSpE8 (n : Byte) (s : State) : exec (.addSpE8 n) s = execAddSpE8 n s := rfl
@[simp] theorem exec_jpHl (s : State) : exec .jpHl s = execJpHl s := rfl
@[simp] theorem exec_ldAtA16A (a : Word) (s : State) : exec (.ldAtA16A a) s = execLdAtA16A a s := rfl
@[simp] theorem exec_illegalEB (s : State) : exec .illegalEB s = execIllegalEB s := rfl
@[simp] theorem exec_illegalEC (s : State) : exec .illegalEC s = execIllegalEC s := rfl
@[simp] theorem exec_illegalED (s : State) : exec .illegalED s = execIllegalED s := rfl
@[simp] theorem exec_xorD8 (n : Byte) (s : State) : exec (.xorD8 n) s = execXorD8 n s := rfl
@[simp] theorem exec_rst28 (s : State) : exec .rst28 s = execRst28 s := rfl
@[simp] theorem exec_ldhAAtA8 (n : Byte) (s : State) : exec (.ldhAAtA8 n) s = execLdhAAtA8 n s := rfl
@[simp] theorem exec_popAf (s : State) : exec .popAf s = execPopAf s := rfl
@[simp] theorem exec_ldAAtC (s : State) : exec .ldAAtC s = execLdAAtC s := rfl
@[simp] theorem exec_di (s : State) : exec .di s = execDi s := rfl
@[simp] theorem exec_illegalF4 (s : State) : exec .illegalF4 s = execIllegalF4 s := rfl
@[simp] theorem exec_pushAf (s : State) : exec .pushAf s = execPushAf s := rfl
@[simp] theorem exec_orD8 (n : Byte) (s : State) : exec (.orD8 n) s = execOrD8 n s := rfl
@[simp] theorem exec_rst30 (s : State) : exec .rst30 s = execRst30 s := rfl
@[simp] theorem exec_ldHlSpE8 (n : Byte) (s : State) : exec (.ldHlSpE8 n) s = execLdHlSpE8 n s := rfl
@[simp] theorem exec_ldSpHl (s : State) : exec .ldSpHl s = execLdSpHl s := rfl
@[simp] theorem exec_ldAAtA16 (a : Word) (s : State) : exec (.ldAAtA16 a) s = execLdAAtA16 a s := rfl
@[simp] theorem exec_ei (s : State) : exec .ei s = execEi s := rfl
@[simp] theorem exec_illegalFC (s : State) : exec .illegalFC s = execIllegalFC s := rfl
@[simp] theorem exec_illegalFD (s : State) : exec .illegalFD s = execIllegalFD s := rfl
@[simp] theorem exec_cpD8 (n : Byte) (s : State) : exec (.cpD8 n) s = execCpD8 n s := rfl
@[simp] theorem exec_rst38 (s : State) : exec .rst38 s = execRst38 s := rfl
@[simp] theorem exec_rlcB (s : State) : exec .rlcB s = execRlcB s := rfl
@[simp] theorem exec_rlcC (s : State) : exec .rlcC s = execRlcC s := rfl
@[simp] theorem exec_rlcD (s : State) : exec .rlcD s = execRlcD s := rfl
@[simp] theorem exec_rlcE (s : State) : exec .rlcE s = execRlcE s := rfl
@[simp] theorem exec_rlcH (s : State) : exec .rlcH s = execRlcH s := rfl
@[simp] theorem exec_rlcL (s : State) : exec .rlcL s = execRlcL s := rfl
@[simp] theorem exec_rlcAtHl (s : State) : exec .rlcAtHl s = execRlcAtHl s := rfl
@[simp] theorem exec_rlcA (s : State) : exec .rlcA s = execRlcA s := rfl
@[simp] theorem exec_rrcB (s : State) : exec .rrcB s = execRrcB s := rfl
@[simp] theorem exec_rrcC (s : State) : exec .rrcC s = execRrcC s := rfl
@[simp] theorem exec_rrcD (s : State) : exec .rrcD s = execRrcD s := rfl
@[simp] theorem exec_rrcE (s : State) : exec .rrcE s = execRrcE s := rfl
@[simp] theorem exec_rrcH (s : State) : exec .rrcH s = execRrcH s := rfl
@[simp] theorem exec_rrcL (s : State) : exec .rrcL s = execRrcL s := rfl
@[simp] theorem exec_rrcAtHl (s : State) : exec .rrcAtHl s = execRrcAtHl s := rfl
@[simp] theorem exec_rrcA (s : State) : exec .rrcA s = execRrcA s := rfl
@[simp] theorem exec_rlB (s : State) : exec .rlB s = execRlB s := rfl
@[simp] theorem exec_rlC (s : State) : exec .rlC s = execRlC s := rfl
@[simp] theorem exec_rlD (s : State) : exec .rlD s = execRlD s := rfl
@[simp] theorem exec_rlE (s : State) : exec .rlE s = execRlE s := rfl
@[simp] theorem exec_rlH (s : State) : exec .rlH s = execRlH s := rfl
@[simp] theorem exec_rlL (s : State) : exec .rlL s = execRlL s := rfl
@[simp] theorem exec_rlAtHl (s : State) : exec .rlAtHl s = execRlAtHl s := rfl
@[simp] theorem exec_rlA (s : State) : exec .rlA s = execRlA s := rfl
@[simp] theorem exec_rrB (s : State) : exec .rrB s = execRrB s := rfl
@[simp] theorem exec_rrC (s : State) : exec .rrC s = execRrC s := rfl
@[simp] theorem exec_rrD (s : State) : exec .rrD s = execRrD s := rfl
@[simp] theorem exec_rrE (s : State) : exec .rrE s = execRrE s := rfl
@[simp] theorem exec_rrH (s : State) : exec .rrH s = execRrH s := rfl
@[simp] theorem exec_rrL (s : State) : exec .rrL s = execRrL s := rfl
@[simp] theorem exec_rrAtHl (s : State) : exec .rrAtHl s = execRrAtHl s := rfl
@[simp] theorem exec_rrA (s : State) : exec .rrA s = execRrA s := rfl
@[simp] theorem exec_slaB (s : State) : exec .slaB s = execSlaB s := rfl
@[simp] theorem exec_slaC (s : State) : exec .slaC s = execSlaC s := rfl
@[simp] theorem exec_slaD (s : State) : exec .slaD s = execSlaD s := rfl
@[simp] theorem exec_slaE (s : State) : exec .slaE s = execSlaE s := rfl
@[simp] theorem exec_slaH (s : State) : exec .slaH s = execSlaH s := rfl
@[simp] theorem exec_slaL (s : State) : exec .slaL s = execSlaL s := rfl
@[simp] theorem exec_slaAtHl (s : State) : exec .slaAtHl s = execSlaAtHl s := rfl
@[simp] theorem exec_slaA (s : State) : exec .slaA s = execSlaA s := rfl
@[simp] theorem exec_sraB (s : State) : exec .sraB s = execSraB s := rfl
@[simp] theorem exec_sraC (s : State) : exec .sraC s = execSraC s := rfl
@[simp] theorem exec_sraD (s : State) : exec .sraD s = execSraD s := rfl
@[simp] theorem exec_sraE (s : State) : exec .sraE s = execSraE s := rfl
@[simp] theorem exec_sraH (s : State) : exec .sraH s = execSraH s := rfl
@[simp] theorem exec_sraL (s : State) : exec .sraL s = execSraL s := rfl
@[simp] theorem exec_sraAtHl (s : State) : exec .sraAtHl s = execSraAtHl s := rfl
@[simp] theorem exec_sraA (s : State) : exec .sraA s = execSraA s := rfl
@[simp] theorem exec_swapB (s : State) : exec .swapB s = execSwapB s := rfl
@[simp] theorem exec_swapC (s : State) : exec .swapC s = execSwapC s := rfl
@[simp] theorem exec_swapD (s : State) : exec .swapD s = execSwapD s := rfl
@[simp] theorem exec_swapE (s : State) : exec .swapE s = execSwapE s := rfl
@[simp] theorem exec_swapH (s : State) : exec .swapH s = execSwapH s := rfl
@[simp] theorem exec_swapL (s : State) : exec .swapL s = execSwapL s := rfl
@[simp] theorem exec_swapAtHl (s : State) : exec .swapAtHl s = execSwapAtHl s := rfl
@[simp] theorem exec_swapA (s : State) : exec .swapA s = execSwapA s := rfl
@[simp] theorem exec_srlB (s : State) : exec .srlB s = execSrlB s := rfl
@[simp] theorem exec_srlC (s : State) : exec .srlC s = execSrlC s := rfl
@[simp] theorem exec_srlD (s : State) : exec .srlD s = execSrlD s := rfl
@[simp] theorem exec_srlE (s : State) : exec .srlE s = execSrlE s := rfl
@[simp] theorem exec_srlH (s : State) : exec .srlH s = execSrlH s := rfl
@[simp] theorem exec_srlL (s : State) : exec .srlL s = execSrlL s := rfl
@[simp] theorem exec_srlAtHl (s : State) : exec .srlAtHl s = execSrlAtHl s := rfl
@[simp] theorem exec_srlA (s : State) : exec .srlA s = execSrlA s := rfl
@[simp] theorem exec_bit0B (s : State) : exec .bit0B s = execBit0B s := rfl
@[simp] theorem exec_bit0C (s : State) : exec .bit0C s = execBit0C s := rfl
@[simp] theorem exec_bit0D (s : State) : exec .bit0D s = execBit0D s := rfl
@[simp] theorem exec_bit0E (s : State) : exec .bit0E s = execBit0E s := rfl
@[simp] theorem exec_bit0H (s : State) : exec .bit0H s = execBit0H s := rfl
@[simp] theorem exec_bit0L (s : State) : exec .bit0L s = execBit0L s := rfl
@[simp] theorem exec_bit0AtHl (s : State) : exec .bit0AtHl s = execBit0AtHl s := rfl
@[simp] theorem exec_bit0A (s : State) : exec .bit0A s = execBit0A s := rfl
@[simp] theorem exec_bit1B (s : State) : exec .bit1B s = execBit1B s := rfl
@[simp] theorem exec_bit1C (s : State) : exec .bit1C s = execBit1C s := rfl
@[simp] theorem exec_bit1D (s : State) : exec .bit1D s = execBit1D s := rfl
@[simp] theorem exec_bit1E (s : State) : exec .bit1E s = execBit1E s := rfl
@[simp] theorem exec_bit1H (s : State) : exec .bit1H s = execBit1H s := rfl
@[simp] theorem exec_bit1L (s : State) : exec .bit1L s = execBit1L s := rfl
@[simp] theorem exec_bit1AtHl (s : State) : exec .bit1AtHl s = execBit1AtHl s := rfl
@[simp] theorem exec_bit1A (s : State) : exec .bit1A s = execBit1A s := rfl
@[simp] theorem exec_bit2B (s : State) : exec .bit2B s = execBit2B s := rfl
@[simp] theorem exec_bit2C (s : State) : exec .bit2C s = execBit2C s := rfl
@[simp] theorem exec_bit2D (s : State) : exec .bit2D s = execBit2D s := rfl
@[simp] theorem exec_bit2E (s : State) : exec .bit2E s = execBit2E s := rfl
@[simp] theorem exec_bit2H (s : State) : exec .bit2H s = execBit2H s := rfl
@[simp] theorem exec_bit2L (s : State) : exec .bit2L s = execBit2L s := rfl
@[simp] theorem exec_bit2AtHl (s : State) : exec .bit2AtHl s = execBit2AtHl s := rfl
@[simp] theorem exec_bit2A (s : State) : exec .bit2A s = execBit2A s := rfl
@[simp] theorem exec_bit3B (s : State) : exec .bit3B s = execBit3B s := rfl
@[simp] theorem exec_bit3C (s : State) : exec .bit3C s = execBit3C s := rfl
@[simp] theorem exec_bit3D (s : State) : exec .bit3D s = execBit3D s := rfl
@[simp] theorem exec_bit3E (s : State) : exec .bit3E s = execBit3E s := rfl
@[simp] theorem exec_bit3H (s : State) : exec .bit3H s = execBit3H s := rfl
@[simp] theorem exec_bit3L (s : State) : exec .bit3L s = execBit3L s := rfl
@[simp] theorem exec_bit3AtHl (s : State) : exec .bit3AtHl s = execBit3AtHl s := rfl
@[simp] theorem exec_bit3A (s : State) : exec .bit3A s = execBit3A s := rfl
@[simp] theorem exec_bit4B (s : State) : exec .bit4B s = execBit4B s := rfl
@[simp] theorem exec_bit4C (s : State) : exec .bit4C s = execBit4C s := rfl
@[simp] theorem exec_bit4D (s : State) : exec .bit4D s = execBit4D s := rfl
@[simp] theorem exec_bit4E (s : State) : exec .bit4E s = execBit4E s := rfl
@[simp] theorem exec_bit4H (s : State) : exec .bit4H s = execBit4H s := rfl
@[simp] theorem exec_bit4L (s : State) : exec .bit4L s = execBit4L s := rfl
@[simp] theorem exec_bit4AtHl (s : State) : exec .bit4AtHl s = execBit4AtHl s := rfl
@[simp] theorem exec_bit4A (s : State) : exec .bit4A s = execBit4A s := rfl
@[simp] theorem exec_bit5B (s : State) : exec .bit5B s = execBit5B s := rfl
@[simp] theorem exec_bit5C (s : State) : exec .bit5C s = execBit5C s := rfl
@[simp] theorem exec_bit5D (s : State) : exec .bit5D s = execBit5D s := rfl
@[simp] theorem exec_bit5E (s : State) : exec .bit5E s = execBit5E s := rfl
@[simp] theorem exec_bit5H (s : State) : exec .bit5H s = execBit5H s := rfl
@[simp] theorem exec_bit5L (s : State) : exec .bit5L s = execBit5L s := rfl
@[simp] theorem exec_bit5AtHl (s : State) : exec .bit5AtHl s = execBit5AtHl s := rfl
@[simp] theorem exec_bit5A (s : State) : exec .bit5A s = execBit5A s := rfl
@[simp] theorem exec_bit6B (s : State) : exec .bit6B s = execBit6B s := rfl
@[simp] theorem exec_bit6C (s : State) : exec .bit6C s = execBit6C s := rfl
@[simp] theorem exec_bit6D (s : State) : exec .bit6D s = execBit6D s := rfl
@[simp] theorem exec_bit6E (s : State) : exec .bit6E s = execBit6E s := rfl
@[simp] theorem exec_bit6H (s : State) : exec .bit6H s = execBit6H s := rfl
@[simp] theorem exec_bit6L (s : State) : exec .bit6L s = execBit6L s := rfl
@[simp] theorem exec_bit6AtHl (s : State) : exec .bit6AtHl s = execBit6AtHl s := rfl
@[simp] theorem exec_bit6A (s : State) : exec .bit6A s = execBit6A s := rfl
@[simp] theorem exec_bit7B (s : State) : exec .bit7B s = execBit7B s := rfl
@[simp] theorem exec_bit7C (s : State) : exec .bit7C s = execBit7C s := rfl
@[simp] theorem exec_bit7D (s : State) : exec .bit7D s = execBit7D s := rfl
@[simp] theorem exec_bit7E (s : State) : exec .bit7E s = execBit7E s := rfl
@[simp] theorem exec_bit7H (s : State) : exec .bit7H s = execBit7H s := rfl
@[simp] theorem exec_bit7L (s : State) : exec .bit7L s = execBit7L s := rfl
@[simp] theorem exec_bit7AtHl (s : State) : exec .bit7AtHl s = execBit7AtHl s := rfl
@[simp] theorem exec_bit7A (s : State) : exec .bit7A s = execBit7A s := rfl
@[simp] theorem exec_res0B (s : State) : exec .res0B s = execRes0B s := rfl
@[simp] theorem exec_res0C (s : State) : exec .res0C s = execRes0C s := rfl
@[simp] theorem exec_res0D (s : State) : exec .res0D s = execRes0D s := rfl
@[simp] theorem exec_res0E (s : State) : exec .res0E s = execRes0E s := rfl
@[simp] theorem exec_res0H (s : State) : exec .res0H s = execRes0H s := rfl
@[simp] theorem exec_res0L (s : State) : exec .res0L s = execRes0L s := rfl
@[simp] theorem exec_res0AtHl (s : State) : exec .res0AtHl s = execRes0AtHl s := rfl
@[simp] theorem exec_res0A (s : State) : exec .res0A s = execRes0A s := rfl
@[simp] theorem exec_res1B (s : State) : exec .res1B s = execRes1B s := rfl
@[simp] theorem exec_res1C (s : State) : exec .res1C s = execRes1C s := rfl
@[simp] theorem exec_res1D (s : State) : exec .res1D s = execRes1D s := rfl
@[simp] theorem exec_res1E (s : State) : exec .res1E s = execRes1E s := rfl
@[simp] theorem exec_res1H (s : State) : exec .res1H s = execRes1H s := rfl
@[simp] theorem exec_res1L (s : State) : exec .res1L s = execRes1L s := rfl
@[simp] theorem exec_res1AtHl (s : State) : exec .res1AtHl s = execRes1AtHl s := rfl
@[simp] theorem exec_res1A (s : State) : exec .res1A s = execRes1A s := rfl
@[simp] theorem exec_res2B (s : State) : exec .res2B s = execRes2B s := rfl
@[simp] theorem exec_res2C (s : State) : exec .res2C s = execRes2C s := rfl
@[simp] theorem exec_res2D (s : State) : exec .res2D s = execRes2D s := rfl
@[simp] theorem exec_res2E (s : State) : exec .res2E s = execRes2E s := rfl
@[simp] theorem exec_res2H (s : State) : exec .res2H s = execRes2H s := rfl
@[simp] theorem exec_res2L (s : State) : exec .res2L s = execRes2L s := rfl
@[simp] theorem exec_res2AtHl (s : State) : exec .res2AtHl s = execRes2AtHl s := rfl
@[simp] theorem exec_res2A (s : State) : exec .res2A s = execRes2A s := rfl
@[simp] theorem exec_res3B (s : State) : exec .res3B s = execRes3B s := rfl
@[simp] theorem exec_res3C (s : State) : exec .res3C s = execRes3C s := rfl
@[simp] theorem exec_res3D (s : State) : exec .res3D s = execRes3D s := rfl
@[simp] theorem exec_res3E (s : State) : exec .res3E s = execRes3E s := rfl
@[simp] theorem exec_res3H (s : State) : exec .res3H s = execRes3H s := rfl
@[simp] theorem exec_res3L (s : State) : exec .res3L s = execRes3L s := rfl
@[simp] theorem exec_res3AtHl (s : State) : exec .res3AtHl s = execRes3AtHl s := rfl
@[simp] theorem exec_res3A (s : State) : exec .res3A s = execRes3A s := rfl
@[simp] theorem exec_res4B (s : State) : exec .res4B s = execRes4B s := rfl
@[simp] theorem exec_res4C (s : State) : exec .res4C s = execRes4C s := rfl
@[simp] theorem exec_res4D (s : State) : exec .res4D s = execRes4D s := rfl
@[simp] theorem exec_res4E (s : State) : exec .res4E s = execRes4E s := rfl
@[simp] theorem exec_res4H (s : State) : exec .res4H s = execRes4H s := rfl
@[simp] theorem exec_res4L (s : State) : exec .res4L s = execRes4L s := rfl
@[simp] theorem exec_res4AtHl (s : State) : exec .res4AtHl s = execRes4AtHl s := rfl
@[simp] theorem exec_res4A (s : State) : exec .res4A s = execRes4A s := rfl
@[simp] theorem exec_res5B (s : State) : exec .res5B s = execRes5B s := rfl
@[simp] theorem exec_res5C (s : State) : exec .res5C s = execRes5C s := rfl
@[simp] theorem exec_res5D (s : State) : exec .res5D s = execRes5D s := rfl
@[simp] theorem exec_res5E (s : State) : exec .res5E s = execRes5E s := rfl
@[simp] theorem exec_res5H (s : State) : exec .res5H s = execRes5H s := rfl
@[simp] theorem exec_res5L (s : State) : exec .res5L s = execRes5L s := rfl
@[simp] theorem exec_res5AtHl (s : State) : exec .res5AtHl s = execRes5AtHl s := rfl
@[simp] theorem exec_res5A (s : State) : exec .res5A s = execRes5A s := rfl
@[simp] theorem exec_res6B (s : State) : exec .res6B s = execRes6B s := rfl
@[simp] theorem exec_res6C (s : State) : exec .res6C s = execRes6C s := rfl
@[simp] theorem exec_res6D (s : State) : exec .res6D s = execRes6D s := rfl
@[simp] theorem exec_res6E (s : State) : exec .res6E s = execRes6E s := rfl
@[simp] theorem exec_res6H (s : State) : exec .res6H s = execRes6H s := rfl
@[simp] theorem exec_res6L (s : State) : exec .res6L s = execRes6L s := rfl
@[simp] theorem exec_res6AtHl (s : State) : exec .res6AtHl s = execRes6AtHl s := rfl
@[simp] theorem exec_res6A (s : State) : exec .res6A s = execRes6A s := rfl
@[simp] theorem exec_res7B (s : State) : exec .res7B s = execRes7B s := rfl
@[simp] theorem exec_res7C (s : State) : exec .res7C s = execRes7C s := rfl
@[simp] theorem exec_res7D (s : State) : exec .res7D s = execRes7D s := rfl
@[simp] theorem exec_res7E (s : State) : exec .res7E s = execRes7E s := rfl
@[simp] theorem exec_res7H (s : State) : exec .res7H s = execRes7H s := rfl
@[simp] theorem exec_res7L (s : State) : exec .res7L s = execRes7L s := rfl
@[simp] theorem exec_res7AtHl (s : State) : exec .res7AtHl s = execRes7AtHl s := rfl
@[simp] theorem exec_res7A (s : State) : exec .res7A s = execRes7A s := rfl
@[simp] theorem exec_set0B (s : State) : exec .set0B s = execSet0B s := rfl
@[simp] theorem exec_set0C (s : State) : exec .set0C s = execSet0C s := rfl
@[simp] theorem exec_set0D (s : State) : exec .set0D s = execSet0D s := rfl
@[simp] theorem exec_set0E (s : State) : exec .set0E s = execSet0E s := rfl
@[simp] theorem exec_set0H (s : State) : exec .set0H s = execSet0H s := rfl
@[simp] theorem exec_set0L (s : State) : exec .set0L s = execSet0L s := rfl
@[simp] theorem exec_set0AtHl (s : State) : exec .set0AtHl s = execSet0AtHl s := rfl
@[simp] theorem exec_set0A (s : State) : exec .set0A s = execSet0A s := rfl
@[simp] theorem exec_set1B (s : State) : exec .set1B s = execSet1B s := rfl
@[simp] theorem exec_set1C (s : State) : exec .set1C s = execSet1C s := rfl
@[simp] theorem exec_set1D (s : State) : exec .set1D s = execSet1D s := rfl
@[simp] theorem exec_set1E (s : State) : exec .set1E s = execSet1E s := rfl
@[simp] theorem exec_set1H (s : State) : exec .set1H s = execSet1H s := rfl
@[simp] theorem exec_set1L (s : State) : exec .set1L s = execSet1L s := rfl
@[simp] theorem exec_set1AtHl (s : State) : exec .set1AtHl s = execSet1AtHl s := rfl
@[simp] theorem exec_set1A (s : State) : exec .set1A s = execSet1A s := rfl
@[simp] theorem exec_set2B (s : State) : exec .set2B s = execSet2B s := rfl
@[simp] theorem exec_set2C (s : State) : exec .set2C s = execSet2C s := rfl
@[simp] theorem exec_set2D (s : State) : exec .set2D s = execSet2D s := rfl
@[simp] theorem exec_set2E (s : State) : exec .set2E s = execSet2E s := rfl
@[simp] theorem exec_set2H (s : State) : exec .set2H s = execSet2H s := rfl
@[simp] theorem exec_set2L (s : State) : exec .set2L s = execSet2L s := rfl
@[simp] theorem exec_set2AtHl (s : State) : exec .set2AtHl s = execSet2AtHl s := rfl
@[simp] theorem exec_set2A (s : State) : exec .set2A s = execSet2A s := rfl
@[simp] theorem exec_set3B (s : State) : exec .set3B s = execSet3B s := rfl
@[simp] theorem exec_set3C (s : State) : exec .set3C s = execSet3C s := rfl
@[simp] theorem exec_set3D (s : State) : exec .set3D s = execSet3D s := rfl
@[simp] theorem exec_set3E (s : State) : exec .set3E s = execSet3E s := rfl
@[simp] theorem exec_set3H (s : State) : exec .set3H s = execSet3H s := rfl
@[simp] theorem exec_set3L (s : State) : exec .set3L s = execSet3L s := rfl
@[simp] theorem exec_set3AtHl (s : State) : exec .set3AtHl s = execSet3AtHl s := rfl
@[simp] theorem exec_set3A (s : State) : exec .set3A s = execSet3A s := rfl
@[simp] theorem exec_set4B (s : State) : exec .set4B s = execSet4B s := rfl
@[simp] theorem exec_set4C (s : State) : exec .set4C s = execSet4C s := rfl
@[simp] theorem exec_set4D (s : State) : exec .set4D s = execSet4D s := rfl
@[simp] theorem exec_set4E (s : State) : exec .set4E s = execSet4E s := rfl
@[simp] theorem exec_set4H (s : State) : exec .set4H s = execSet4H s := rfl
@[simp] theorem exec_set4L (s : State) : exec .set4L s = execSet4L s := rfl
@[simp] theorem exec_set4AtHl (s : State) : exec .set4AtHl s = execSet4AtHl s := rfl
@[simp] theorem exec_set4A (s : State) : exec .set4A s = execSet4A s := rfl
@[simp] theorem exec_set5B (s : State) : exec .set5B s = execSet5B s := rfl
@[simp] theorem exec_set5C (s : State) : exec .set5C s = execSet5C s := rfl
@[simp] theorem exec_set5D (s : State) : exec .set5D s = execSet5D s := rfl
@[simp] theorem exec_set5E (s : State) : exec .set5E s = execSet5E s := rfl
@[simp] theorem exec_set5H (s : State) : exec .set5H s = execSet5H s := rfl
@[simp] theorem exec_set5L (s : State) : exec .set5L s = execSet5L s := rfl
@[simp] theorem exec_set5AtHl (s : State) : exec .set5AtHl s = execSet5AtHl s := rfl
@[simp] theorem exec_set5A (s : State) : exec .set5A s = execSet5A s := rfl
@[simp] theorem exec_set6B (s : State) : exec .set6B s = execSet6B s := rfl
@[simp] theorem exec_set6C (s : State) : exec .set6C s = execSet6C s := rfl
@[simp] theorem exec_set6D (s : State) : exec .set6D s = execSet6D s := rfl
@[simp] theorem exec_set6E (s : State) : exec .set6E s = execSet6E s := rfl
@[simp] theorem exec_set6H (s : State) : exec .set6H s = execSet6H s := rfl
@[simp] theorem exec_set6L (s : State) : exec .set6L s = execSet6L s := rfl
@[simp] theorem exec_set6AtHl (s : State) : exec .set6AtHl s = execSet6AtHl s := rfl
@[simp] theorem exec_set6A (s : State) : exec .set6A s = execSet6A s := rfl
@[simp] theorem exec_set7B (s : State) : exec .set7B s = execSet7B s := rfl
@[simp] theorem exec_set7C (s : State) : exec .set7C s = execSet7C s := rfl
@[simp] theorem exec_set7D (s : State) : exec .set7D s = execSet7D s := rfl
@[simp] theorem exec_set7E (s : State) : exec .set7E s = execSet7E s := rfl
@[simp] theorem exec_set7H (s : State) : exec .set7H s = execSet7H s := rfl
@[simp] theorem exec_set7L (s : State) : exec .set7L s = execSet7L s := rfl
@[simp] theorem exec_set7AtHl (s : State) : exec .set7AtHl s = execSet7AtHl s := rfl
@[simp] theorem exec_set7A (s : State) : exec .set7A s = execSet7A s := rfl

end Sys2Proof.Machine
end

