-- ==== Sys2Proof/Laws/Memory.lean ====
section
/-! SUPPORT. Memory as a map: a read after a write, and that every operation keeps the canonical form. -/

namespace Sys2Proof.Machine

theorem Memory.get_erase_self (m : List Host.Cell) (n : Nat) : Memory.get (Memory.erase m n) n = 0 := by
  induction m with
  | nil => rfl
  | cons c r ih =>
    obtain ⟨k, v⟩ := c
    by_cases h : k = n <;> simp [Memory.erase, Memory.get, h, ih]

theorem Memory.get_erase_ne (m : List Host.Cell) {n k : Nat} (h : k ≠ n) :
    Memory.get (Memory.erase m n) k = Memory.get m k := by
  induction m with
  | nil => rfl
  | cons c r ih =>
    obtain ⟨a, v⟩ := c
    by_cases ha : a = n
    · subst ha; simp [Memory.erase, Memory.get, ih, Ne.symm h]
    · simp [Memory.erase, Memory.get, ha, ih]

theorem Memory.get_insert_self (m : List Host.Cell) (n : Nat) (v : Byte) (h : ∀ c ∈ m, c.1 ≠ n) :
    Memory.get (Memory.insert m n v) n = v := by
  induction m with
  | nil => simp [Memory.insert, Memory.get]
  | cons c r ih =>
    obtain ⟨k, w⟩ := c
    have hk : k ≠ n := h (k, w) (by simp)
    have hr : ∀ c ∈ r, c.1 ≠ n := fun c hc => h c (by simp [hc])
    by_cases hl : n < k <;> simp [Memory.insert, Memory.get, hl, hk, ih hr]

theorem Memory.get_insert_ne (m : List Host.Cell) {n k : Nat} (v : Byte) (h : k ≠ n) :
    Memory.get (Memory.insert m n v) k = Memory.get m k := by
  induction m with
  | nil => simp [Memory.insert, Memory.get, Ne.symm h]
  | cons c r ih =>
    obtain ⟨a, w⟩ := c
    by_cases hl : n < a <;> simp [Memory.insert, Memory.get, hl, ih, Ne.symm h]

theorem Memory.mem_erase {m : List Host.Cell} {n : Nat} {c : Host.Cell} :
    c ∈ Memory.erase m n ↔ c ∈ m ∧ c.1 ≠ n := by
  induction m with
  | nil => simp [Memory.erase]
  | cons d r ih =>
    obtain ⟨k, v⟩ := d
    by_cases h : k = n
    · simp only [Memory.erase, h, if_true, ih, List.mem_cons]
      constructor
      · rintro ⟨h1, h2⟩; exact ⟨.inr h1, h2⟩
      · rintro ⟨rfl | h1, h2⟩
        · exact absurd rfl h2
        · exact ⟨h1, h2⟩
    · simp only [Memory.erase, h, if_false, List.mem_cons, ih]
      constructor
      · rintro (rfl | ⟨h1, h2⟩)
        · exact ⟨.inl rfl, h⟩
        · exact ⟨.inr h1, h2⟩
      · rintro ⟨rfl | h1, h2⟩
        · exact .inl rfl
        · exact .inr ⟨h1, h2⟩

theorem Memory.mem_insert {m : List Host.Cell} {n : Nat} {v : Byte} {c : Host.Cell} :
    c ∈ Memory.insert m n v ↔ c = (n, v) ∨ c ∈ m := by
  induction m with
  | nil => simp [Memory.insert]
  | cons d r ih =>
    obtain ⟨k, w⟩ := d
    by_cases h : n < k
    · simp [Memory.insert, h]
    · simp only [Memory.insert, h, if_false, List.mem_cons, ih]
      tauto

/-- A read after a write to the same address gives the byte written. -/
@[simp] theorem Memory.get_set_self (m : List Host.Cell) (n : Nat) (v : Byte) :
    Memory.get (Memory.set m n v) n = v := by
  unfold Memory.set
  split
  · rename_i h; rw [Memory.get_erase_self, h]
  · exact Memory.get_insert_self _ _ _ fun c hc => (Memory.mem_erase.1 hc).2

/-- A write leaves every other address as it was. -/
theorem Memory.get_set_ne (m : List Host.Cell) {n k : Nat} (v : Byte) (h : k ≠ n) :
    Memory.get (Memory.set m n v) k = Memory.get m k := by
  unfold Memory.set
  split
  · exact Memory.get_erase_ne m h
  · rw [Memory.get_insert_ne _ _ h, Memory.get_erase_ne m h]

/-- What a write lists: the new cell, unless its byte is 0x00, and the old ones. -/
theorem Memory.mem_set {m : List Host.Cell} {n : Nat} {v : Byte} {c : Host.Cell}
    (h : c ∈ Memory.set m n v) : c = (n, v) ∨ c ∈ m := by
  unfold Memory.set at h
  split at h
  · exact .inr (Memory.mem_erase.1 h).1
  · rcases Memory.mem_insert.1 h with h | h
    · exact .inl h
    · exact .inr (Memory.mem_erase.1 h).1

theorem Memory.pairwise_erase {m : List Host.Cell} (n : Nat) (h : m.Pairwise (fun c d => c.1 < d.1)) :
    (Memory.erase m n).Pairwise (fun c d => c.1 < d.1) := by
  induction m with
  | nil => exact h
  | cons c r ih =>
    obtain ⟨k, v⟩ := c
    obtain ⟨h1, h2⟩ := List.pairwise_cons.1 h
    by_cases hk : k = n
    · simpa [Memory.erase, hk] using ih h2
    · simp only [Memory.erase, hk, if_false]
      exact List.pairwise_cons.2 ⟨fun d hd => h1 d (Memory.mem_erase.1 hd).1, ih h2⟩

theorem Memory.pairwise_insert {m : List Host.Cell} (n : Nat) (v : Byte)
    (h : m.Pairwise (fun c d => c.1 < d.1)) (hn : ∀ c ∈ m, c.1 ≠ n) :
    (Memory.insert m n v).Pairwise (fun c d => c.1 < d.1) := by
  induction m with
  | nil => simp [Memory.insert]
  | cons c r ih =>
    obtain ⟨k, w⟩ := c
    obtain ⟨h1, h2⟩ := List.pairwise_cons.1 h
    by_cases hk : n < k
    · simp only [Memory.insert, hk, if_true]
      refine List.pairwise_cons.2 ⟨fun d hd => ?_, h⟩
      rcases List.mem_cons.1 hd with rfl | hd
      · exact hk
      · exact lt_trans hk (h1 d hd)
    · simp only [Memory.insert, hk, if_false]
      refine List.pairwise_cons.2 ⟨fun d hd => ?_, ih h2 fun c hc => hn c (by simp [hc])⟩
      rcases Memory.mem_insert.1 hd with rfl | hd
      · have := hn (k, w) (by simp); simp only at this ⊢; omega
      · exact h1 d hd

/-- Every write keeps the canonical form. -/
theorem Memory.wf_set {m : List Host.Cell} (h : Memory.wf m) (n : Nat) (v : Byte) :
    Memory.wf (Memory.set m n v) := by
  refine ⟨?_, fun c hc => ?_⟩
  · unfold Memory.set
    split
    · exact Memory.pairwise_erase n h.1
    · exact Memory.pairwise_insert n v (Memory.pairwise_erase n h.1) fun c hc => (Memory.mem_erase.1 hc).2
  · unfold Memory.set at hc
    split at hc
    · exact h.2 c (Memory.mem_erase.1 hc).1
    · rename_i hv
      rcases Memory.mem_insert.1 hc with rfl | hc
      · exact hv
      · exact h.2 c (Memory.mem_erase.1 hc).1

end Sys2Proof.Machine
end

