-- ==== Sys2Proof/Laws/State.lean ====
section
/-! SUPPORT. The fields of State under each named update: one lemma per field, true by unfolding the update once,
so that no later proof unfolds a record update. -/

namespace Sys2Proof.Machine

/-! The direct store `poke` changes `mem` only. -/

@[simp] theorem poke_af (s : State) (n : Nat) (v : Byte) :
    (s.poke n v).af = s.af := rfl
@[simp] theorem poke_bc (s : State) (n : Nat) (v : Byte) :
    (s.poke n v).bc = s.bc := rfl
@[simp] theorem poke_de (s : State) (n : Nat) (v : Byte) :
    (s.poke n v).de = s.de := rfl
@[simp] theorem poke_hl (s : State) (n : Nat) (v : Byte) :
    (s.poke n v).hl = s.hl := rfl
@[simp] theorem poke_sp (s : State) (n : Nat) (v : Byte) :
    (s.poke n v).sp = s.sp := rfl
@[simp] theorem poke_pc (s : State) (n : Nat) (v : Byte) :
    (s.poke n v).pc = s.pc := rfl
@[simp] theorem poke_ime (s : State) (n : Nat) (v : Byte) :
    (s.poke n v).ime = s.ime := rfl
@[simp] theorem poke_halted (s : State) (n : Nat) (v : Byte) :
    (s.poke n v).halted = s.halted := rfl
@[simp] theorem poke_stall (s : State) (n : Nat) (v : Byte) :
    (s.poke n v).stall = s.stall := rfl
@[simp] theorem poke_romBanks (s : State) (n : Nat) (v : Byte) :
    (s.poke n v).romBanks = s.romBanks := rfl
@[simp] theorem poke_dmaActive (s : State) (n : Nat) (v : Byte) :
    (s.poke n v).dmaActive = s.dmaActive := rfl
@[simp] theorem poke_dmaCursor (s : State) (n : Nat) (v : Byte) :
    (s.poke n v).dmaCursor = s.dmaCursor := rfl
@[simp] theorem poke_dot (s : State) (n : Nat) (v : Byte) :
    (s.poke n v).dot = s.dot := rfl
@[simp] theorem poke_sprites (s : State) (n : Nat) (v : Byte) :
    (s.poke n v).sprites = s.sprites := rfl
@[simp] theorem poke_spriteTall (s : State) (n : Nat) (v : Byte) :
    (s.poke n v).spriteTall = s.spriteTall := rfl
@[simp] theorem poke_windowLine (s : State) (n : Nat) (v : Byte) :
    (s.poke n v).windowLine = s.windowLine := rfl
@[simp] theorem poke_frames (s : State) (n : Nat) (v : Byte) :
    (s.poke n v).frames = s.frames := rfl
@[simp] theorem poke_frame (s : State) (n : Nat) (v : Byte) :
    (s.poke n v).frame = s.frame := rfl
@[simp] theorem poke_executed (s : State) (n : Nat) (v : Byte) :
    (s.poke n v).executed = s.executed := rfl
@[simp] theorem poke_frameReady (s : State) (n : Nat) (v : Byte) :
    (s.poke n v).frameReady = s.frameReady := rfl
@[simp] theorem poke_log (s : State) (n : Nat) (v : Byte) :
    (s.poke n v).log = s.log := rfl
@[simp] theorem poke_presented (s : State) (n : Nat) (v : Byte) :
    (s.poke n v).presented = s.presented := rfl
@[simp] theorem poke_params (s : State) (n : Nat) (v : Byte) :
    (s.poke n v).params = s.params := rfl
@[simp] theorem poke_draws (s : State) (n : Nat) (v : Byte) :
    (s.poke n v).draws = s.draws := rfl

@[simp] theorem poke_mem (s : State) (n : Nat) (v : Byte) : (s.poke n v).mem = Memory.set s.mem n v := rfl

/-! A 16-bit register write changes no field but its own. -/

@[simp] theorem setReg16_ime (s : State) (r : Reg16) (w : Word) :
    (s.setReg16 r w).ime = s.ime := by cases r <;> rfl
@[simp] theorem setReg16_halted (s : State) (r : Reg16) (w : Word) :
    (s.setReg16 r w).halted = s.halted := by cases r <;> rfl
@[simp] theorem setReg16_stall (s : State) (r : Reg16) (w : Word) :
    (s.setReg16 r w).stall = s.stall := by cases r <;> rfl
@[simp] theorem setReg16_mem (s : State) (r : Reg16) (w : Word) :
    (s.setReg16 r w).mem = s.mem := by cases r <;> rfl
@[simp] theorem setReg16_romBanks (s : State) (r : Reg16) (w : Word) :
    (s.setReg16 r w).romBanks = s.romBanks := by cases r <;> rfl
@[simp] theorem setReg16_dmaActive (s : State) (r : Reg16) (w : Word) :
    (s.setReg16 r w).dmaActive = s.dmaActive := by cases r <;> rfl
@[simp] theorem setReg16_dmaCursor (s : State) (r : Reg16) (w : Word) :
    (s.setReg16 r w).dmaCursor = s.dmaCursor := by cases r <;> rfl
@[simp] theorem setReg16_dot (s : State) (r : Reg16) (w : Word) :
    (s.setReg16 r w).dot = s.dot := by cases r <;> rfl
@[simp] theorem setReg16_sprites (s : State) (r : Reg16) (w : Word) :
    (s.setReg16 r w).sprites = s.sprites := by cases r <;> rfl
@[simp] theorem setReg16_spriteTall (s : State) (r : Reg16) (w : Word) :
    (s.setReg16 r w).spriteTall = s.spriteTall := by cases r <;> rfl
@[simp] theorem setReg16_windowLine (s : State) (r : Reg16) (w : Word) :
    (s.setReg16 r w).windowLine = s.windowLine := by cases r <;> rfl
@[simp] theorem setReg16_frames (s : State) (r : Reg16) (w : Word) :
    (s.setReg16 r w).frames = s.frames := by cases r <;> rfl
@[simp] theorem setReg16_frame (s : State) (r : Reg16) (w : Word) :
    (s.setReg16 r w).frame = s.frame := by cases r <;> rfl
@[simp] theorem setReg16_executed (s : State) (r : Reg16) (w : Word) :
    (s.setReg16 r w).executed = s.executed := by cases r <;> rfl
@[simp] theorem setReg16_frameReady (s : State) (r : Reg16) (w : Word) :
    (s.setReg16 r w).frameReady = s.frameReady := by cases r <;> rfl
@[simp] theorem setReg16_log (s : State) (r : Reg16) (w : Word) :
    (s.setReg16 r w).log = s.log := by cases r <;> rfl
@[simp] theorem setReg16_presented (s : State) (r : Reg16) (w : Word) :
    (s.setReg16 r w).presented = s.presented := by cases r <;> rfl
@[simp] theorem setReg16_params (s : State) (r : Reg16) (w : Word) :
    (s.setReg16 r w).params = s.params := by cases r <;> rfl
@[simp] theorem setReg16_draws (s : State) (r : Reg16) (w : Word) :
    (s.setReg16 r w).draws = s.draws := by cases r <;> rfl

/-! An 8-bit register write changes no field but its pair. -/

@[simp] theorem setReg8_sp (s : State) (r : Reg8) (v : Byte) :
    (s.setReg8 r v).sp = s.sp := by cases r <;> rfl
@[simp] theorem setReg8_pc (s : State) (r : Reg8) (v : Byte) :
    (s.setReg8 r v).pc = s.pc := by cases r <;> rfl
@[simp] theorem setReg8_ime (s : State) (r : Reg8) (v : Byte) :
    (s.setReg8 r v).ime = s.ime := by cases r <;> rfl
@[simp] theorem setReg8_halted (s : State) (r : Reg8) (v : Byte) :
    (s.setReg8 r v).halted = s.halted := by cases r <;> rfl
@[simp] theorem setReg8_stall (s : State) (r : Reg8) (v : Byte) :
    (s.setReg8 r v).stall = s.stall := by cases r <;> rfl
@[simp] theorem setReg8_mem (s : State) (r : Reg8) (v : Byte) :
    (s.setReg8 r v).mem = s.mem := by cases r <;> rfl
@[simp] theorem setReg8_romBanks (s : State) (r : Reg8) (v : Byte) :
    (s.setReg8 r v).romBanks = s.romBanks := by cases r <;> rfl
@[simp] theorem setReg8_dmaActive (s : State) (r : Reg8) (v : Byte) :
    (s.setReg8 r v).dmaActive = s.dmaActive := by cases r <;> rfl
@[simp] theorem setReg8_dmaCursor (s : State) (r : Reg8) (v : Byte) :
    (s.setReg8 r v).dmaCursor = s.dmaCursor := by cases r <;> rfl
@[simp] theorem setReg8_dot (s : State) (r : Reg8) (v : Byte) :
    (s.setReg8 r v).dot = s.dot := by cases r <;> rfl
@[simp] theorem setReg8_sprites (s : State) (r : Reg8) (v : Byte) :
    (s.setReg8 r v).sprites = s.sprites := by cases r <;> rfl
@[simp] theorem setReg8_spriteTall (s : State) (r : Reg8) (v : Byte) :
    (s.setReg8 r v).spriteTall = s.spriteTall := by cases r <;> rfl
@[simp] theorem setReg8_windowLine (s : State) (r : Reg8) (v : Byte) :
    (s.setReg8 r v).windowLine = s.windowLine := by cases r <;> rfl
@[simp] theorem setReg8_frames (s : State) (r : Reg8) (v : Byte) :
    (s.setReg8 r v).frames = s.frames := by cases r <;> rfl
@[simp] theorem setReg8_frame (s : State) (r : Reg8) (v : Byte) :
    (s.setReg8 r v).frame = s.frame := by cases r <;> rfl
@[simp] theorem setReg8_executed (s : State) (r : Reg8) (v : Byte) :
    (s.setReg8 r v).executed = s.executed := by cases r <;> rfl
@[simp] theorem setReg8_frameReady (s : State) (r : Reg8) (v : Byte) :
    (s.setReg8 r v).frameReady = s.frameReady := by cases r <;> rfl
@[simp] theorem setReg8_log (s : State) (r : Reg8) (v : Byte) :
    (s.setReg8 r v).log = s.log := by cases r <;> rfl
@[simp] theorem setReg8_presented (s : State) (r : Reg8) (v : Byte) :
    (s.setReg8 r v).presented = s.presented := by cases r <;> rfl
@[simp] theorem setReg8_params (s : State) (r : Reg8) (v : Byte) :
    (s.setReg8 r v).params = s.params := by cases r <;> rfl
@[simp] theorem setReg8_draws (s : State) (r : Reg8) (v : Byte) :
    (s.setReg8 r v).draws = s.draws := by cases r <;> rfl

/-! A flag write changes `af` only. -/

@[simp] theorem setFlags_bc (s : State) (g : Flags) :
    (s.setFlags g).bc = s.bc := rfl
@[simp] theorem setFlags_de (s : State) (g : Flags) :
    (s.setFlags g).de = s.de := rfl
@[simp] theorem setFlags_hl (s : State) (g : Flags) :
    (s.setFlags g).hl = s.hl := rfl
@[simp] theorem setFlags_sp (s : State) (g : Flags) :
    (s.setFlags g).sp = s.sp := rfl
@[simp] theorem setFlags_pc (s : State) (g : Flags) :
    (s.setFlags g).pc = s.pc := rfl
@[simp] theorem setFlags_ime (s : State) (g : Flags) :
    (s.setFlags g).ime = s.ime := rfl
@[simp] theorem setFlags_halted (s : State) (g : Flags) :
    (s.setFlags g).halted = s.halted := rfl
@[simp] theorem setFlags_stall (s : State) (g : Flags) :
    (s.setFlags g).stall = s.stall := rfl
@[simp] theorem setFlags_mem (s : State) (g : Flags) :
    (s.setFlags g).mem = s.mem := rfl
@[simp] theorem setFlags_romBanks (s : State) (g : Flags) :
    (s.setFlags g).romBanks = s.romBanks := rfl
@[simp] theorem setFlags_dmaActive (s : State) (g : Flags) :
    (s.setFlags g).dmaActive = s.dmaActive := rfl
@[simp] theorem setFlags_dmaCursor (s : State) (g : Flags) :
    (s.setFlags g).dmaCursor = s.dmaCursor := rfl
@[simp] theorem setFlags_dot (s : State) (g : Flags) :
    (s.setFlags g).dot = s.dot := rfl
@[simp] theorem setFlags_sprites (s : State) (g : Flags) :
    (s.setFlags g).sprites = s.sprites := rfl
@[simp] theorem setFlags_spriteTall (s : State) (g : Flags) :
    (s.setFlags g).spriteTall = s.spriteTall := rfl
@[simp] theorem setFlags_windowLine (s : State) (g : Flags) :
    (s.setFlags g).windowLine = s.windowLine := rfl
@[simp] theorem setFlags_frames (s : State) (g : Flags) :
    (s.setFlags g).frames = s.frames := rfl
@[simp] theorem setFlags_frame (s : State) (g : Flags) :
    (s.setFlags g).frame = s.frame := rfl
@[simp] theorem setFlags_executed (s : State) (g : Flags) :
    (s.setFlags g).executed = s.executed := rfl
@[simp] theorem setFlags_frameReady (s : State) (g : Flags) :
    (s.setFlags g).frameReady = s.frameReady := rfl
@[simp] theorem setFlags_log (s : State) (g : Flags) :
    (s.setFlags g).log = s.log := rfl
@[simp] theorem setFlags_presented (s : State) (g : Flags) :
    (s.setFlags g).presented = s.presented := rfl
@[simp] theorem setFlags_params (s : State) (g : Flags) :
    (s.setFlags g).params = s.params := rfl
@[simp] theorem setFlags_draws (s : State) (g : Flags) :
    (s.setFlags g).draws = s.draws := rfl

/-! Starting the DMA changes the DMA engine's two fields only. -/

@[simp] theorem dmaStart_af (v : Byte) (s : State) :
    (dmaStart v s).af = s.af := rfl
@[simp] theorem dmaStart_bc (v : Byte) (s : State) :
    (dmaStart v s).bc = s.bc := rfl
@[simp] theorem dmaStart_de (v : Byte) (s : State) :
    (dmaStart v s).de = s.de := rfl
@[simp] theorem dmaStart_hl (v : Byte) (s : State) :
    (dmaStart v s).hl = s.hl := rfl
@[simp] theorem dmaStart_sp (v : Byte) (s : State) :
    (dmaStart v s).sp = s.sp := rfl
@[simp] theorem dmaStart_pc (v : Byte) (s : State) :
    (dmaStart v s).pc = s.pc := rfl
@[simp] theorem dmaStart_ime (v : Byte) (s : State) :
    (dmaStart v s).ime = s.ime := rfl
@[simp] theorem dmaStart_halted (v : Byte) (s : State) :
    (dmaStart v s).halted = s.halted := rfl
@[simp] theorem dmaStart_stall (v : Byte) (s : State) :
    (dmaStart v s).stall = s.stall := rfl
@[simp] theorem dmaStart_mem (v : Byte) (s : State) :
    (dmaStart v s).mem = s.mem := rfl
@[simp] theorem dmaStart_romBanks (v : Byte) (s : State) :
    (dmaStart v s).romBanks = s.romBanks := rfl
@[simp] theorem dmaStart_dot (v : Byte) (s : State) :
    (dmaStart v s).dot = s.dot := rfl
@[simp] theorem dmaStart_sprites (v : Byte) (s : State) :
    (dmaStart v s).sprites = s.sprites := rfl
@[simp] theorem dmaStart_spriteTall (v : Byte) (s : State) :
    (dmaStart v s).spriteTall = s.spriteTall := rfl
@[simp] theorem dmaStart_windowLine (v : Byte) (s : State) :
    (dmaStart v s).windowLine = s.windowLine := rfl
@[simp] theorem dmaStart_frames (v : Byte) (s : State) :
    (dmaStart v s).frames = s.frames := rfl
@[simp] theorem dmaStart_frame (v : Byte) (s : State) :
    (dmaStart v s).frame = s.frame := rfl
@[simp] theorem dmaStart_executed (v : Byte) (s : State) :
    (dmaStart v s).executed = s.executed := rfl
@[simp] theorem dmaStart_frameReady (v : Byte) (s : State) :
    (dmaStart v s).frameReady = s.frameReady := rfl
@[simp] theorem dmaStart_log (v : Byte) (s : State) :
    (dmaStart v s).log = s.log := rfl
@[simp] theorem dmaStart_presented (v : Byte) (s : State) :
    (dmaStart v s).presented = s.presented := rfl
@[simp] theorem dmaStart_params (v : Byte) (s : State) :
    (dmaStart v s).params = s.params := rfl
@[simp] theorem dmaStart_draws (v : Byte) (s : State) :
    (dmaStart v s).draws = s.draws := rfl

@[simp] theorem dmaStart_dmaActive (v : Byte) (s : State) : (dmaStart v s).dmaActive = true := rfl
@[simp] theorem dmaStart_dmaCursor (v : Byte) (s : State) :
    (dmaStart v s).dmaCursor = joinBytes v 0x00 := rfl

/-! Copying one DMA byte changes memory and the DMA engine's fields only. -/

@[simp] theorem dmaCopyByte_af (b : Byte) (s : State) :
    (dmaCopyByte b s).af = s.af := rfl
@[simp] theorem dmaCopyByte_bc (b : Byte) (s : State) :
    (dmaCopyByte b s).bc = s.bc := rfl
@[simp] theorem dmaCopyByte_de (b : Byte) (s : State) :
    (dmaCopyByte b s).de = s.de := rfl
@[simp] theorem dmaCopyByte_hl (b : Byte) (s : State) :
    (dmaCopyByte b s).hl = s.hl := rfl
@[simp] theorem dmaCopyByte_sp (b : Byte) (s : State) :
    (dmaCopyByte b s).sp = s.sp := rfl
@[simp] theorem dmaCopyByte_pc (b : Byte) (s : State) :
    (dmaCopyByte b s).pc = s.pc := rfl
@[simp] theorem dmaCopyByte_ime (b : Byte) (s : State) :
    (dmaCopyByte b s).ime = s.ime := rfl
@[simp] theorem dmaCopyByte_halted (b : Byte) (s : State) :
    (dmaCopyByte b s).halted = s.halted := rfl
@[simp] theorem dmaCopyByte_stall (b : Byte) (s : State) :
    (dmaCopyByte b s).stall = s.stall := rfl
@[simp] theorem dmaCopyByte_romBanks (b : Byte) (s : State) :
    (dmaCopyByte b s).romBanks = s.romBanks := rfl
@[simp] theorem dmaCopyByte_dot (b : Byte) (s : State) :
    (dmaCopyByte b s).dot = s.dot := rfl
@[simp] theorem dmaCopyByte_sprites (b : Byte) (s : State) :
    (dmaCopyByte b s).sprites = s.sprites := rfl
@[simp] theorem dmaCopyByte_spriteTall (b : Byte) (s : State) :
    (dmaCopyByte b s).spriteTall = s.spriteTall := rfl
@[simp] theorem dmaCopyByte_windowLine (b : Byte) (s : State) :
    (dmaCopyByte b s).windowLine = s.windowLine := rfl
@[simp] theorem dmaCopyByte_frames (b : Byte) (s : State) :
    (dmaCopyByte b s).frames = s.frames := rfl
@[simp] theorem dmaCopyByte_frame (b : Byte) (s : State) :
    (dmaCopyByte b s).frame = s.frame := rfl
@[simp] theorem dmaCopyByte_executed (b : Byte) (s : State) :
    (dmaCopyByte b s).executed = s.executed := rfl
@[simp] theorem dmaCopyByte_frameReady (b : Byte) (s : State) :
    (dmaCopyByte b s).frameReady = s.frameReady := rfl
@[simp] theorem dmaCopyByte_log (b : Byte) (s : State) :
    (dmaCopyByte b s).log = s.log := rfl
@[simp] theorem dmaCopyByte_presented (b : Byte) (s : State) :
    (dmaCopyByte b s).presented = s.presented := rfl
@[simp] theorem dmaCopyByte_params (b : Byte) (s : State) :
    (dmaCopyByte b s).params = s.params := rfl
@[simp] theorem dmaCopyByte_draws (b : Byte) (s : State) :
    (dmaCopyByte b s).draws = s.draws := rfl

/-! Requesting an interrupt changes `mem` only. -/

@[simp] theorem requestInterrupt_af (m : Byte) (s : State) :
    (requestInterrupt m s).af = s.af := rfl
@[simp] theorem requestInterrupt_bc (m : Byte) (s : State) :
    (requestInterrupt m s).bc = s.bc := rfl
@[simp] theorem requestInterrupt_de (m : Byte) (s : State) :
    (requestInterrupt m s).de = s.de := rfl
@[simp] theorem requestInterrupt_hl (m : Byte) (s : State) :
    (requestInterrupt m s).hl = s.hl := rfl
@[simp] theorem requestInterrupt_sp (m : Byte) (s : State) :
    (requestInterrupt m s).sp = s.sp := rfl
@[simp] theorem requestInterrupt_pc (m : Byte) (s : State) :
    (requestInterrupt m s).pc = s.pc := rfl
@[simp] theorem requestInterrupt_ime (m : Byte) (s : State) :
    (requestInterrupt m s).ime = s.ime := rfl
@[simp] theorem requestInterrupt_halted (m : Byte) (s : State) :
    (requestInterrupt m s).halted = s.halted := rfl
@[simp] theorem requestInterrupt_stall (m : Byte) (s : State) :
    (requestInterrupt m s).stall = s.stall := rfl
@[simp] theorem requestInterrupt_romBanks (m : Byte) (s : State) :
    (requestInterrupt m s).romBanks = s.romBanks := rfl
@[simp] theorem requestInterrupt_dmaActive (m : Byte) (s : State) :
    (requestInterrupt m s).dmaActive = s.dmaActive := rfl
@[simp] theorem requestInterrupt_dmaCursor (m : Byte) (s : State) :
    (requestInterrupt m s).dmaCursor = s.dmaCursor := rfl
@[simp] theorem requestInterrupt_dot (m : Byte) (s : State) :
    (requestInterrupt m s).dot = s.dot := rfl
@[simp] theorem requestInterrupt_sprites (m : Byte) (s : State) :
    (requestInterrupt m s).sprites = s.sprites := rfl
@[simp] theorem requestInterrupt_spriteTall (m : Byte) (s : State) :
    (requestInterrupt m s).spriteTall = s.spriteTall := rfl
@[simp] theorem requestInterrupt_windowLine (m : Byte) (s : State) :
    (requestInterrupt m s).windowLine = s.windowLine := rfl
@[simp] theorem requestInterrupt_frames (m : Byte) (s : State) :
    (requestInterrupt m s).frames = s.frames := rfl
@[simp] theorem requestInterrupt_frame (m : Byte) (s : State) :
    (requestInterrupt m s).frame = s.frame := rfl
@[simp] theorem requestInterrupt_executed (m : Byte) (s : State) :
    (requestInterrupt m s).executed = s.executed := rfl
@[simp] theorem requestInterrupt_frameReady (m : Byte) (s : State) :
    (requestInterrupt m s).frameReady = s.frameReady := rfl
@[simp] theorem requestInterrupt_log (m : Byte) (s : State) :
    (requestInterrupt m s).log = s.log := rfl
@[simp] theorem requestInterrupt_presented (m : Byte) (s : State) :
    (requestInterrupt m s).presented = s.presented := rfl
@[simp] theorem requestInterrupt_params (m : Byte) (s : State) :
    (requestInterrupt m s).params = s.params := rfl
@[simp] theorem requestInterrupt_draws (m : Byte) (s : State) :
    (requestInterrupt m s).draws = s.draws := rfl

/-! The end of step 4 changes `stall` and `executed` only. -/

@[simp] theorem finishRow_af (i : Instr) (b : Bool) (s : State) :
    (finishRow i b s).af = s.af := rfl
@[simp] theorem finishRow_bc (i : Instr) (b : Bool) (s : State) :
    (finishRow i b s).bc = s.bc := rfl
@[simp] theorem finishRow_de (i : Instr) (b : Bool) (s : State) :
    (finishRow i b s).de = s.de := rfl
@[simp] theorem finishRow_hl (i : Instr) (b : Bool) (s : State) :
    (finishRow i b s).hl = s.hl := rfl
@[simp] theorem finishRow_sp (i : Instr) (b : Bool) (s : State) :
    (finishRow i b s).sp = s.sp := rfl
@[simp] theorem finishRow_pc (i : Instr) (b : Bool) (s : State) :
    (finishRow i b s).pc = s.pc := rfl
@[simp] theorem finishRow_ime (i : Instr) (b : Bool) (s : State) :
    (finishRow i b s).ime = s.ime := rfl
@[simp] theorem finishRow_halted (i : Instr) (b : Bool) (s : State) :
    (finishRow i b s).halted = s.halted := rfl
@[simp] theorem finishRow_mem (i : Instr) (b : Bool) (s : State) :
    (finishRow i b s).mem = s.mem := rfl
@[simp] theorem finishRow_romBanks (i : Instr) (b : Bool) (s : State) :
    (finishRow i b s).romBanks = s.romBanks := rfl
@[simp] theorem finishRow_dmaActive (i : Instr) (b : Bool) (s : State) :
    (finishRow i b s).dmaActive = s.dmaActive := rfl
@[simp] theorem finishRow_dmaCursor (i : Instr) (b : Bool) (s : State) :
    (finishRow i b s).dmaCursor = s.dmaCursor := rfl
@[simp] theorem finishRow_dot (i : Instr) (b : Bool) (s : State) :
    (finishRow i b s).dot = s.dot := rfl
@[simp] theorem finishRow_sprites (i : Instr) (b : Bool) (s : State) :
    (finishRow i b s).sprites = s.sprites := rfl
@[simp] theorem finishRow_spriteTall (i : Instr) (b : Bool) (s : State) :
    (finishRow i b s).spriteTall = s.spriteTall := rfl
@[simp] theorem finishRow_windowLine (i : Instr) (b : Bool) (s : State) :
    (finishRow i b s).windowLine = s.windowLine := rfl
@[simp] theorem finishRow_frames (i : Instr) (b : Bool) (s : State) :
    (finishRow i b s).frames = s.frames := rfl
@[simp] theorem finishRow_frame (i : Instr) (b : Bool) (s : State) :
    (finishRow i b s).frame = s.frame := rfl
@[simp] theorem finishRow_frameReady (i : Instr) (b : Bool) (s : State) :
    (finishRow i b s).frameReady = s.frameReady := rfl
@[simp] theorem finishRow_log (i : Instr) (b : Bool) (s : State) :
    (finishRow i b s).log = s.log := rfl
@[simp] theorem finishRow_presented (i : Instr) (b : Bool) (s : State) :
    (finishRow i b s).presented = s.presented := rfl
@[simp] theorem finishRow_params (i : Instr) (b : Bool) (s : State) :
    (finishRow i b s).params = s.params := rfl
@[simp] theorem finishRow_draws (i : Instr) (b : Bool) (s : State) :
    (finishRow i b s).draws = s.draws := rfl

/-! `andThen` on each outcome, and what it answers. -/

@[simp] theorem andThen_next (s : State) (k : State → Result) : andThen (.next s) k = k s := rfl
@[simp] theorem andThen_fault (f : Fault) (k : State → Result) : andThen (.fault f) k = .fault f := rfl
@[simp] theorem andThen_refused (r : Refusal) (k : State → Result) : andThen (.refused r) k = .refused r := rfl

/-- A sequence ends in a state exactly when its first part does and the rest goes on from there. -/
theorem andThen_eq_next {o : Result} {k : State → Result} {t : State} :
    andThen o k = .next t ↔ ∃ s, o = .next s ∧ k s = .next t := by
  cases o <;> simp [andThen]

/-- A sequence faults exactly when one of its parts does. -/
theorem andThen_eq_fault {o : Result} {k : State → Result} {f : Fault} :
    andThen o k = .fault f ↔ o = .fault f ∨ ∃ s, o = .next s ∧ k s = .fault f := by
  cases o <;> simp [andThen]

/-- A sequence is refused exactly when one of its parts is. -/
theorem andThen_eq_refused {o : Result} {k : State → Result} {r : Refusal} :
    andThen o k = .refused r ↔ o = .refused r ∨ ∃ s, o = .next s ∧ k s = .refused r := by
  cases o <;> simp [andThen]

/-! `readThen` and `readOperandThen` by what the read answers. -/

theorem readThen_eq_next {a : Word} {s t : State} {k : Byte → Result} :
    readThen a s k = .next t ↔ ∃ v, memRead a s = .ok v ∧ k v = .next t := by
  unfold readThen; cases memRead a s <;> simp

theorem readThen_eq_fault {a : Word} {s : State} {k : Byte → Result} {f : Fault} :
    readThen a s k = .fault f ↔ memRead a s = .error f ∨ ∃ v, memRead a s = .ok v ∧ k v = .fault f := by
  unfold readThen; cases memRead a s <;> simp

theorem readThen_eq_refused {a : Word} {s : State} {k : Byte → Result} {r : Refusal} :
    readThen a s k = .refused r ↔ ∃ v, memRead a s = .ok v ∧ k v = .refused r := by
  unfold readThen; cases memRead a s <;> simp

theorem readOperandThen_eq_next {o : Operand8} {s t : State} {k : Byte → Result} :
    readOperandThen o s k = .next t ↔ ∃ v, read8 o s = .ok v ∧ k v = .next t := by
  unfold readOperandThen; cases read8 o s <;> simp

theorem readOperandThen_eq_fault {o : Operand8} {s : State} {k : Byte → Result} {f : Fault} :
    readOperandThen o s k = .fault f ↔ read8 o s = .error f ∨ ∃ v, read8 o s = .ok v ∧ k v = .fault f := by
  unfold readOperandThen; cases read8 o s <;> simp

theorem readOperandThen_eq_refused {o : Operand8} {s : State} {k : Byte → Result} {r : Refusal} :
    readOperandThen o s k = .refused r ↔ ∃ v, read8 o s = .ok v ∧ k v = .refused r := by
  unfold readOperandThen; cases read8 o s <;> simp

end Sys2Proof.Machine
end

