-- ==== Sys2Proof/Laws/Registers.lean ====
section
/-! SUPPORT. The register file: a read after a write, and the flags after a flag write. -/

namespace Sys2Proof

@[simp] theorem hiByte_joinBytes (a b : Byte) : hiByte (joinBytes a b) = a := by
  unfold hiByte joinBytes
  ext i hi
  simp only [BitVec.getElem_extractLsb', BitVec.getLsbD_append]
  have : ¬ (8 + i < 8) := by omega
  simp [this, BitVec.getLsbD_eq_getElem hi]

@[simp] theorem loByte_joinBytes (a b : Byte) : loByte (joinBytes a b) = b := by
  unfold loByte joinBytes
  ext i hi
  simp only [BitVec.getElem_extractLsb', BitVec.getLsbD_append]
  simp [hi]

@[simp] theorem joinBytes_hiByte_loByte (w : Word) : joinBytes (hiByte w) (loByte w) = w := by
  unfold hiByte loByte joinBytes
  ext i hi
  simp only [BitVec.getElem_append, BitVec.getElem_extractLsb']
  split
  · simp [BitVec.getLsbD_eq_getElem hi]
  · have : 8 + (i - 8) = i := by omega
    simp [this, BitVec.getLsbD_eq_getElem hi]

theorem joinBytes_toNat (a b : Byte) : (joinBytes a b).toNat = a.toNat * 0x100 + b.toNat := by
  unfold joinBytes
  rw [BitVec.toNat_append, ← Nat.shiftLeft_add_eq_or_of_lt b.isLt, Nat.shiftLeft_eq]

@[simp] theorem hiByte_and_FFF0 (w : Word) : hiByte (w &&& 0xFFF0#16) = hiByte w := by
  unfold hiByte
  rw [BitVec.extractLsb'_and, show BitVec.extractLsb' 8 8 0xFFF0#16 = BitVec.allOnes 8 from rfl,
    BitVec.and_allOnes]

@[simp] theorem loByte_and_FFF0 (w : Word) : loByte (w &&& 0xFFF0#16) = loByte w &&& 0xF0#8 := by
  unfold loByte
  rw [BitVec.extractLsb'_and, show BitVec.extractLsb' 0 8 0xFFF0#16 = 0xF0#8 from rfl]

namespace Machine

/-- Reading an 8-bit register after writing it gives the byte written; F keeps its high nibble only (R33). -/
theorem reg8_setReg8_self (s : State) (r : Reg8) (v : Byte) :
    (s.setReg8 r v).reg8 r = if r = .f then v &&& 0xF0 else v := by
  cases r <;> simp [State.setReg8, State.setReg16, State.reg8, State.reg16, BitVec.and_assoc]

/-- Writing an 8-bit register leaves the seven others as they were (R32). -/
theorem reg8_setReg8_ne (s : State) {r q : Reg8} (v : Byte) (h : q ≠ r) :
    (s.setReg8 r v).reg8 q = s.reg8 q := by
  cases r <;> cases q <;>
    first
    | exact absurd rfl h
    | simp [State.setReg8, State.setReg16, State.reg8, State.reg16, BitVec.and_assoc]

/-- Reading a 16-bit register after writing it gives the word written; AF has bits 3 to 0 clear (R33). -/
theorem reg16_setReg16_self (s : State) (r : Reg16) (w : Word) :
    (s.setReg16 r w).reg16 r = if r = .af then w &&& 0xFFF0 else w := by
  cases r <;> simp [State.setReg16, State.reg16, BitVec.and_assoc]

/-- Writing a 16-bit register leaves the five others as they were. -/
theorem reg16_setReg16_ne (s : State) {r q : Reg16} (w : Word) (h : q ≠ r) :
    (s.setReg16 r w).reg16 q = s.reg16 q := by
  cases r <;> cases q <;>
    first
    | exact absurd rfl h
    | rfl

/-- The packed flags have bits 3 to 0 clear (R33). -/
theorem packFlags_and_F0 (g : Flags) : packFlags g &&& 0xF0 = packFlags g := by
  obtain ⟨z, n, h, c⟩ := g
  cases z <;> cases n <;> cases h <;> cases c <;> rfl

/-- The flags read after a flag write are the flags written (R39). -/
@[simp] theorem flags_setFlags (s : State) (g : Flags) : (s.setFlags g).flags = g := by
  have h : (s.setFlags g).reg8 .f = packFlags g := by
    unfold State.setFlags
    rw [reg8_setReg8_self, if_pos rfl, packFlags_and_F0]
  unfold State.flags
  rw [h]
  clear h
  obtain ⟨z, n, h, c⟩ := g
  cases z <;> cases n <;> cases h <;> cases c <;> rfl

/-- A flag write leaves every 8-bit register but F as it was. -/
@[simp] theorem reg8_setFlags (s : State) (g : Flags) {q : Reg8} (h : q ≠ .f) :
    (s.setFlags g).reg8 q = s.reg8 q := reg8_setReg8_ne s _ h

/-- Writing an 8-bit register other than F leaves the flags as they were. -/
theorem flags_setReg8 (s : State) {r : Reg8} (v : Byte) (h : r ≠ .f) : (s.setReg8 r v).flags = s.flags := by
  unfold State.flags
  rw [reg8_setReg8_ne s v (Ne.symm h)]

/-- Every write of an 8-bit register keeps F's low nibble clear (R33). -/
theorem flagsLow_setReg8 (s : State) (r : Reg8) (v : Byte) (h : s.af &&& 0x000F = 0) :
    (s.setReg8 r v).af &&& 0x000F = 0 := by
  cases r <;> simp only [State.setReg8, State.setReg16] <;>
    first
    | exact h
    | rw [BitVec.and_assoc]; simp

/-- Every write of a 16-bit register keeps F's low nibble clear (R33). -/
theorem flagsLow_setReg16 (s : State) (r : Reg16) (w : Word) (h : s.af &&& 0x000F = 0) :
    (s.setReg16 r w).af &&& 0x000F = 0 := by
  cases r <;> simp only [State.setReg16] <;>
    first
    | exact h
    | rw [BitVec.and_assoc]; simp

/-- An 8-bit register write, seen whole: the four pairs may change and nothing else. -/
theorem setReg8_whole (s : State) (r : Reg8) (v : Byte) :
    s.setReg8 r v = { s with
      af := (s.setReg8 r v).af, bc := (s.setReg8 r v).bc
      de := (s.setReg8 r v).de, hl := (s.setReg8 r v).hl } := by
  cases r <;> rfl

/-- A flag write, seen whole: `af` may change and nothing else. -/
theorem setFlags_whole (s : State) (g : Flags) : s.setFlags g = { s with af := (s.setFlags g).af } := rfl

/-- A write of A, seen whole: `af` may change and nothing else. -/
theorem setReg8_a_whole (s : State) (v : Byte) : s.setReg8 .a v = { s with af := (s.setReg8 .a v).af } := rfl

end Machine

end Sys2Proof
end

