-- ==== Sys2Proof/Laws/Ops.lean ====
section
/-! SUPPORT. The shared operations over memory and the stack: what each can do, said once. A later proof cites these
and unfolds none of them. -/

namespace Sys2Proof.Machine

/-! The address space (R84 to R87). -/

theorem romIndex_eq (a : Word) (h : a.toNat < 0x8000) : romIndex a = a.toNat := by
  unfold romIndex
  split <;> omega

theorem mirror_of_lt (a : Word) (h : a.toNat < 0xE000) : mirror a = a := by
  unfold mirror
  rw [if_neg (by omega)]

theorem mirror_of_gt (a : Word) (h : 0xFDFF < a.toNat) : mirror a = a := by
  unfold mirror
  rw [if_neg (by omega)]

theorem mirror_toNat (a : Word) :
    (mirror a).toNat = if 0xE000 ≤ a.toNat ∧ a.toNat ≤ 0xFDFF then a.toNat - 0x2000 else a.toNat := by
  unfold mirror
  split
  · have h : (0x2000 : Word).toNat = 0x2000 := rfl
    rw [BitVec.toNat_sub, h]; omega
  · rfl

/-- The cell a read at `a` takes its byte from is the mirrored address. -/
theorem cellOf_eq (a : Word) : cellOf a = (mirror a).toNat := by
  unfold cellOf
  split
  · rw [romIndex_eq a ‹_›, mirror_of_lt a (by omega)]
  · rfl

/-- A mirrored address is real storage wherever it is not a ROM address the image lacks. -/
theorem storage_mirror {banks : Nat} {a : Word} (h : a.toNat < 0x8000 → a.toNat < banks * 0x4000) :
    Storage banks (mirror a).toNat := by
  have ha := a.isLt
  refine ⟨(mirror a).isLt, ?_, ?_⟩ <;> rw [mirror_toNat] <;> split <;> omega

/-- A read of a readable address gives the byte of its cell. -/
theorem memRead_ok {s : State} {a : Word} (h : Readable s a) : memRead a s = .ok (s.peek (mirror a).toNat) := by
  unfold memRead
  unfold Readable at h
  split
  · rw [romIndex_eq a ‹_›, if_neg (by omega), mirror_of_lt a (by omega)]
  · rfl

/-- A read of an address whose bank the image lacks faults. -/
theorem memRead_error {s : State} {a : Word} (h : ¬Readable s a) :
    memRead a s = .error (.romIndexOutOfRange a (romIndex a) s.snapshot) := by
  unfold Readable at h
  unfold memRead
  rw [if_pos (by omega), if_pos (by rw [romIndex_eq a (by omega)]; omega)]

theorem memRead_eq_ok {s : State} {a : Word} {v : Byte} :
    memRead a s = .ok v ↔ Readable s a ∧ s.peek (mirror a).toNat = v := by
  by_cases h : Readable s a
  · simp [memRead_ok h, h]
  · simp [memRead_error h, h]

/-- With two banks in the image every address is readable (R84). -/
theorem readable_of_banks {s : State} (a : Word) (h : 2 ≤ s.romBanks) : Readable s a := by
  unfold Readable
  omega

theorem writable_of_banks {s : State} (a : Word) (h : 2 ≤ s.romBanks) : Writable s a := by
  unfold Writable
  omega

/-- The state after a write of `v` to a writable address `a` (R85 to R90). -/
def State.stored (s : State) (a : Word) (v : Byte) : State :=
  if a.toNat < 0x8000 then
    match s.params.romWritePolicy with
    | .ignore => s
    | .store => s.poke a.toNat v
  else if a.toNat = 0xFF00 then s.poke 0xFF00 ((v &&& 0xF0) ||| (s.peek 0xFF00 &&& 0x0F))
  else if a.toNat = 0xFF46 then dmaStart v s
  else s.poke (mirror a).toNat v

/-- A write to a writable address gives exactly that state. -/
theorem memWrite_next {s : State} {a : Word} (v : Byte) (h : Writable s a) :
    memWrite a v s = .next (s.stored a v) := by
  unfold memWrite State.stored
  split
  · unfold romWrite
    rw [romIndex_eq a ‹_›]
    unfold Writable at h
    cases hp : s.params.romWritePolicy with
    | ignore => rfl
    | store =>
      rw [hp] at h
      simp only [reduceCtorEq, false_or] at h
      rw [if_neg (by omega)]
  · split
    · rfl
    · split <;> rfl

/-- A write to an address that is not writable faults: only under `store`, in an absent bank (R86). -/
theorem memWrite_fault {s : State} {a : Word} (v : Byte) (h : ¬Writable s a) :
    memWrite a v s = .fault (.romIndexOutOfRange a (romIndex a) s.snapshot) := by
  unfold Writable at h
  have ha : a.toNat < 0x8000 := by omega
  unfold memWrite romWrite
  rw [if_pos ha, romIndex_eq a ha]
  cases hp : s.params.romWritePolicy with
  | ignore => exact absurd (.inr (.inl hp)) h
  | store => simp only; rw [if_pos (by omega)]

theorem memWrite_eq_next {s t : State} {a : Word} {v : Byte} :
    memWrite a v s = .next t ↔ Writable s a ∧ t = s.stored a v := by
  by_cases h : Writable s a
  · simp [memWrite_next v h, h, eq_comm]
  · simp [memWrite_fault v h, h]

/-- A write changes memory and the DMA engine's start, nothing else. -/
theorem stored_whole (s : State) (a : Word) (v : Byte) :
    s.stored a v = { s with
      mem := (s.stored a v).mem
      dmaActive := (s.stored a v).dmaActive
      dmaCursor := (s.stored a v).dmaCursor } := by
  unfold State.stored
  split
  · split <;> rfl
  · split
    · rfl
    · split <;> rfl

/-! The control of an operation's outcome. -/


theorem readThen_ok {s : State} {a : Word} {v : Byte} (k : Byte → Result) (h : memRead a s = .ok v) :
    readThen a s k = k v := by
  unfold readThen
  rw [h]

theorem readThen_error {s : State} {a : Word} {f : Fault} (k : Byte → Result) (h : memRead a s = .error f) :
    readThen a s k = .fault f := by
  unfold readThen
  rw [h]

theorem readOperandThen_reg (r : Reg8) (s : State) (k : Byte → Result) :
    readOperandThen (.reg r) s k = k (s.reg8 r) := rfl

theorem readOperandThen_atHl (s : State) (k : Byte → Result) :
    readOperandThen .atHl s k = readThen s.hl s k := rfl

/-! The stack (R230, R231) and the subroutine primitives (R322, R323). -/

/-- The state after `push16 w`. -/
def State.pushed (s : State) (w : Word) : State :=
  ({ ({ s with sp := s.sp - 1 } : State).stored (s.sp - 1) (hiByte w) with sp := s.sp - 1 - 1 } : State).stored
    (s.sp - 1 - 1) (loByte w)

@[simp] theorem stored_sp (s : State) (a : Word) (v : Byte) : (s.stored a v).sp = s.sp := by
  rw [stored_whole]

@[simp] theorem stored_params (s : State) (a : Word) (v : Byte) : (s.stored a v).params = s.params := by
  rw [stored_whole]

@[simp] theorem stored_romBanks (s : State) (a : Word) (v : Byte) : (s.stored a v).romBanks = s.romBanks := by
  rw [stored_whole]

theorem push16_next {s : State} (w : Word) (h1 : Writable s (s.sp - 1)) (h2 : Writable s (s.sp - 1 - 1)) :
    push16 w s = .next (s.pushed w) := by
  unfold push16 State.pushed
  have h1' : Writable { s with sp := s.sp - 1 } (s.sp - 1) := h1
  rw [memWrite_next _ h1', andThen_next, stored_sp]
  refine memWrite_next _ ?_
  unfold Writable at h2 ⊢
  simpa using h2

theorem push16_eq_next {s t : State} {w : Word} (h : push16 w s = .next t) : t = s.pushed w := by
  unfold push16 at h
  obtain ⟨m, hm, ht⟩ := andThen_eq_next.1 h
  obtain ⟨-, rfl⟩ := memWrite_eq_next.1 hm
  rw [stored_sp] at ht
  obtain ⟨-, rfl⟩ := memWrite_eq_next.1 ht
  rfl

theorem memWrite_ne_refused {s : State} {a : Word} {v : Byte} {r : Refusal} : memWrite a v s ≠ .refused r := by
  by_cases h : Writable s a
  · rw [memWrite_next v h]; exact nofun
  · rw [memWrite_fault v h]; exact nofun

theorem push16_ne_refused {s : State} {w : Word} {r : Refusal} : push16 w s ≠ .refused r := by
  intro h
  unfold push16 at h
  rcases andThen_eq_refused.1 h with h | ⟨m, -, h⟩ <;> exact memWrite_ne_refused h

theorem pop16_ok {s : State} {lo hi : Byte} (k : Word → State → Result) (h1 : memRead s.sp s = .ok lo)
    (h2 : memRead (s.sp + 1) s = .ok hi) : pop16 s k = k (joinBytes hi lo) { s with sp := s.sp + 1 + 1 } := by
  have h2' : memRead (s.sp + 1) { s with sp := s.sp + 1 } = .ok hi := by
    have := memRead_eq_ok.1 h2
    exact memRead_eq_ok.2 this
  unfold pop16
  rw [readThen_ok _ h1, readThen_ok _ h2']

theorem pop16_eq_next {s t : State} {k : Word → State → Result} (h : pop16 s k = .next t) :
    ∃ w, k w { s with sp := s.sp + 1 + 1 } = .next t := by
  unfold pop16 at h
  obtain ⟨lo, -, h⟩ := readThen_eq_next.1 h
  obtain ⟨hi, -, h⟩ := readThen_eq_next.1 h
  exact ⟨_, h⟩

theorem callSub_next {s : State} (a : Word) (h1 : Writable s (s.sp - 1)) (h2 : Writable s (s.sp - 1 - 1)) :
    callSub a s = .next { s.pushed s.pc with pc := a } := by
  unfold callSub
  rw [push16_next _ h1 h2, andThen_next]

theorem retSub_next {s : State} {lo hi : Byte} (h1 : memRead s.sp s = .ok lo)
    (h2 : memRead (s.sp + 1) s = .ok hi) :
    retSub s = .next { s with sp := s.sp + 1 + 1, pc := joinBytes hi lo } :=
  pop16_ok _ h1 h2

end Sys2Proof.Machine
end

