-- ==== Sys2Proof/Laws/Effect.lean ====
section
/-! SUPPORT. What an instruction can do to the whole state, said once over the shared operations and then for every
constructor: the fields the CPU leaves alone, and the facts about memory, F and the DMA engine that every write
keeps. -/

namespace Sys2Proof.Machine

/-- Everything the CPU's work leads to from `s`: only the registers, IME, `halted`, `stall`, memory, the DMA engine, the
log and `executed` may differ, and what holds of memory, F and the DMA engine by their write rules still holds. -/
structure CpuEffect (s t : State) : Prop where
  /-- The fields the CPU never writes. -/
  whole : t = { s with
    af := t.af, bc := t.bc, de := t.de, hl := t.hl, sp := t.sp, pc := t.pc
    ime := t.ime, halted := t.halted, stall := t.stall, mem := t.mem
    dmaActive := t.dmaActive, dmaCursor := t.dmaCursor, log := t.log, executed := t.executed }
  /-- Memory keeps its canonical form. -/
  memWf : Memory.wf s.mem → Memory.wf t.mem
  /-- Memory lists real storage only (R82, R83, R87). -/
  storage : (∀ c ∈ s.mem, Storage s.romBanks c.1) → ∀ c ∈ t.mem, Storage t.romBanks c.1
  /-- F's low nibble stays clear (R33). -/
  flagsLow : s.af &&& 0x000F = 0 → t.af &&& 0x000F = 0
  /-- JOYP's low nibble is not the CPU's to write (R57, R89). -/
  joypLow : t.peek 0xFF00 &&& 0x0F = s.peek 0xFF00 &&& 0x0F
  /-- The byte stored at 0xFF46 never changes (R56, R90). -/
  dmaByte : t.peek 0xFF46 = s.peek 0xFF46
  /-- The ROM never changes under `ignore` (R86). -/
  rom : s.params.romWritePolicy = .ignore → ∀ n < 0x8000, t.peek n = s.peek n
  /-- A copy in flight stays inside its 160 bytes (R90, R91). -/
  dmaInside : (s.dmaActive = true → s.dmaCursor.toNat % 0x100 < 0xA0) →
    t.dmaActive = true → t.dmaCursor.toNat % 0x100 < 0xA0

namespace CpuEffect

theorem romBanks {s t : State} (h : CpuEffect s t) : t.romBanks = s.romBanks := by rw [h.whole]
theorem params {s t : State} (h : CpuEffect s t) : t.params = s.params := by rw [h.whole]
theorem dot {s t : State} (h : CpuEffect s t) : t.dot = s.dot := by rw [h.whole]
theorem sprites {s t : State} (h : CpuEffect s t) : t.sprites = s.sprites := by rw [h.whole]

theorem refl (s : State) : CpuEffect s s :=
  ⟨rfl, id, id, id, rfl, rfl, fun _ _ _ => rfl, id⟩

theorem trans {s t u : State} (h : CpuEffect s t) (k : CpuEffect t u) : CpuEffect s u where
  whole := by
    have hw := h.whole
    have kw := k.whole
    rw [hw] at kw
    exact kw
  memWf := k.memWf ∘ h.memWf
  storage := k.storage ∘ h.storage
  flagsLow := k.flagsLow ∘ h.flagsLow
  joypLow := k.joypLow.trans h.joypLow
  dmaByte := k.dmaByte.trans h.dmaByte
  rom hp n hn := (k.rom (by rw [h.params]; exact hp) n hn).trans (h.rom hp n hn)
  dmaInside := k.dmaInside ∘ h.dmaInside

/-- A change of registers and CPU flags only. -/
theorem ofRegs {s t : State}
    (hw : t = { s with
      af := t.af, bc := t.bc, de := t.de, hl := t.hl, sp := t.sp, pc := t.pc
      ime := t.ime, halted := t.halted, stall := t.stall, log := t.log, executed := t.executed })
    (hf : s.af &&& 0x000F = 0 → t.af &&& 0x000F = 0) : CpuEffect s t := by
  have hm : t.mem = s.mem := by rw [hw]
  have hb : t.romBanks = s.romBanks := by rw [hw]
  have ha : t.dmaActive = s.dmaActive := by rw [hw]
  have hc : t.dmaCursor = s.dmaCursor := by rw [hw]
  refine ⟨?_, ?_, ?_, hf, ?_, ?_, ?_, ?_⟩
  · rw [hm, ha, hc]; exact hw
  · rw [hm]; exact id
  · rw [hm, hb]; exact id
  · unfold State.peek; rw [hm]
  · unfold State.peek; rw [hm]
  · intro _ n _; unfold State.peek; rw [hm]
  · rw [ha, hc]; exact id

/-- A store in a cell that is real storage, no ROM, not 0xFF46, and at 0xFF00 keeps the low nibble. -/
theorem ofPoke (s : State) (n : Nat) (v : Byte) (hs : Storage s.romBanks n)
    (hr : s.params.romWritePolicy = .ignore → 0x8000 ≤ n) (hd : n ≠ 0xFF46)
    (hj : n = 0xFF00 → v &&& 0x0F = s.peek 0xFF00 &&& 0x0F) : CpuEffect s (s.poke n v) where
  whole := rfl
  memWf h := Memory.wf_set h n v
  storage h c hc := by
    rcases Memory.mem_set hc with rfl | hc
    · exact hs
    · exact h c hc
  flagsLow h := h
  joypLow := by
    by_cases h : n = 0xFF00
    · subst h
      unfold State.poke State.peek
      rw [Memory.get_set_self]
      exact hj rfl
    · unfold State.poke State.peek
      rw [Memory.get_set_ne _ _ (Ne.symm h)]
  dmaByte := Memory.get_set_ne _ _ (Ne.symm hd)
  rom hp k hk := Memory.get_set_ne _ _ (by have := hr hp; omega)
  dmaInside := id

/-- A write through the address space (R85 to R90). -/
theorem ofStored (s : State) (a : Word) (v : Byte) (hw : Writable s a) : CpuEffect s (s.stored a v) := by
  have ha := a.isLt
  unfold Writable at hw
  unfold State.stored
  split
  · split
    · exact refl s
    · rename_i hp
      rw [hp] at hw
      simp only [reduceCtorEq, false_or] at hw
      refine ofPoke s _ v ⟨by omega, by omega, by omega⟩ (by rw [hp]; exact nofun) (by omega) (by omega)
  · split
    · refine ofPoke s _ _ ⟨by omega, by omega, by omega⟩ (by omega) (by omega) (fun _ => ?_)
      have h0 : (0xF0 &&& 0x0F : Byte) = 0#8 := rfl
      rw [BitVec.and_or_distrib_right, BitVec.and_assoc, BitVec.and_assoc, h0, BitVec.and_self, BitVec.and_zero,
        BitVec.zero_or]
    · split
      · refine ⟨rfl, id, id, id, rfl, rfl, fun _ _ _ => rfl, fun _ _ => ?_⟩
        show (joinBytes v 0x00).toNat % 0x100 < 0xA0
        rw [joinBytes_toNat]
        simp
      · have hm := mirror_toNat a
        refine ofPoke s _ v (storage_mirror (by omega)) ?_ ?_ ?_ <;> rw [hm] <;> split <;> omega

end CpuEffect

/-- Whatever state an outcome ends in comes from `s` by the CPU's work. -/
def Effects (s : State) (o : Result) : Prop := ∀ t, o = .next t → CpuEffect s t

namespace Effects

@[simp] theorem next {s t : State} : Effects s (.next t) ↔ CpuEffect s t :=
  ⟨fun h => h t rfl, fun h u hu => by cases hu; exact h⟩

@[simp] theorem refused {s : State} {r : Refusal} : Effects s (.refused r) := nofun

@[simp] theorem fault {s : State} {f : Fault} : Effects s (.fault f) := nofun

theorem andThen {s : State} {o : Result} {k : State → Result} (ho : Effects s o)
    (hk : ∀ m, CpuEffect s m → Effects m (k m)) : Effects s (andThen o k) := by
  intro t ht
  obtain ⟨m, hm, ht⟩ := andThen_eq_next.1 ht
  exact (ho m hm).trans (hk m (ho m hm) t ht)

theorem readThen {s m : State} {a : Word} {k : Byte → Result} (hk : ∀ v, Effects s (k v)) :
    Effects s (readThen a m k) := by
  intro t ht
  obtain ⟨v, -, ht⟩ := readThen_eq_next.1 ht
  exact hk v t ht

theorem readOperandThen {s : State} {o : Operand8} {k : Byte → Result} (hk : ∀ v, Effects s (k v)) :
    Effects s (readOperandThen o s k) := by
  intro t ht
  obtain ⟨v, -, ht⟩ := readOperandThen_eq_next.1 ht
  exact hk v t ht

theorem after {s m : State} {o : Result} (h : CpuEffect s m) (ho : Effects m o) : Effects s o :=
  fun t ht => h.trans (ho t ht)

end Effects

open CpuEffect

@[simp] theorem setReg16_effect (s : State) (r : Reg16) (w : Word) : CpuEffect s (s.setReg16 r w) := by
  refine ofRegs ?_ (flagsLow_setReg16 s r w)
  cases r <;> rfl

@[simp] theorem setReg8_effect (s : State) (r : Reg8) (v : Byte) : CpuEffect s (s.setReg8 r v) := by
  refine ofRegs ?_ (flagsLow_setReg8 s r v)
  cases r <;> rfl

@[simp] theorem setFlags_effect (s : State) (g : Flags) : CpuEffect s (s.setFlags g) := setReg8_effect s .f _

@[simp] theorem pc_effect (s : State) (a : Word) : CpuEffect s { s with pc := a } := ofRegs rfl id

@[simp] theorem ime_effect (s : State) (b : Bool) : CpuEffect s { s with ime := b } := ofRegs rfl id

@[simp] theorem halted_effect (s : State) (b : Bool) : CpuEffect s { s with halted := b } := ofRegs rfl id

@[simp] theorem memWrite_effect (a : Word) (v : Byte) (s : State) : Effects s (memWrite a v s) := by
  intro t ht
  obtain ⟨hw, rfl⟩ := memWrite_eq_next.1 ht
  exact ofStored s a v hw

@[simp] theorem write8_effect (o : Operand8) (v : Byte) (s : State) : Effects s (write8 o v s) := by
  cases o with
  | reg r => exact Effects.next.2 (setReg8_effect s r v)
  | atHl => exact memWrite_effect s.hl v s

@[simp] theorem push16_effect (w : Word) (s : State) : Effects s (push16 w s) := by
  refine Effects.andThen ?_ fun m _ => ?_
  · exact Effects.after (m := { s with sp := s.sp - 1 }) (ofRegs rfl id) (memWrite_effect _ _ _)
  · exact Effects.after (m := { m with sp := m.sp - 1 }) (ofRegs rfl id) (memWrite_effect _ _ _)

@[simp] theorem callSub_effect (a : Word) (s : State) : Effects s (callSub a s) :=
  Effects.andThen (push16_effect _ s) fun m _ => Effects.next.2 (pc_effect m a)

theorem pop16_effect (s : State) (k : Word → State → Result) (hk : ∀ w m, Effects m (k w m)) :
    Effects s (pop16 s k) := by
  refine Effects.readThen fun lo => ?_
  refine Effects.readThen fun hi => ?_
  exact Effects.after (m := { s with sp := s.sp + 1 + 1 }) (ofRegs rfl id) (hk _ _)

@[simp] theorem popTo_effect (r : Reg16) (s : State) : Effects s (popTo r s) :=
  pop16_effect s _ fun w m => Effects.next.2 (setReg16_effect m r w)

@[simp] theorem retSub_effect (s : State) : Effects s (retSub s) :=
  pop16_effect s _ fun w m => Effects.next.2 (pc_effect m w)

@[simp] theorem returnFromInterrupt_effect (s : State) : Effects s (returnFromInterrupt s) :=
  Effects.andThen (retSub_effect s) fun m _ => Effects.next.2 (ime_effect m true)

@[simp] theorem copyReg_effect (dst r : Reg8) (s : State) : Effects s (copyReg dst r s) :=
  Effects.next.2 (setReg8_effect s dst _)

@[simp] theorem loadFrom_effect (r : Reg8) (a : Word) (s : State) : Effects s (loadFrom r a s) :=
  Effects.readThen fun v => Effects.next.2 (setReg8_effect s r v)

@[simp] theorem aluOn_effect (op : AluOp) (b : Byte) (s : State) : CpuEffect s (aluOn op b s) := by
  unfold aluOn
  simp only
  split
  · exact setFlags_effect s _
  · exact (setReg8_effect s .a _).trans (setFlags_effect _ _)

@[simp] theorem aluOperand_effect (op : AluOp) (o : Operand8) (s : State) : Effects s (aluOperand op o s) :=
  Effects.readOperandThen fun b => Effects.next.2 (aluOn_effect op b s)

@[simp] theorem stepOperand_effect (f : Byte → Flags → Byte × Flags) (o : Operand8) (s : State) :
    Effects s (stepOperand f o s) :=
  Effects.readOperandThen fun _ => Effects.andThen (write8_effect o _ s) fun m _ =>
    Effects.next.2 (setFlags_effect m _)

@[simp] theorem rotateA_effect (op : RotOp) (s : State) : CpuEffect s (rotateA op s) :=
  (setReg8_effect s .a _).trans (setFlags_effect _ _)

@[simp] theorem rotateOperand_effect (op : RotOp) (o : Operand8) (s : State) : Effects s (rotateOperand op o s) :=
  Effects.readOperandThen fun _ => Effects.andThen (write8_effect o _ s) fun m _ =>
    Effects.next.2 (setFlags_effect m _)

@[simp] theorem bitOperand_effect (b : Nat) (o : Operand8) (s : State) : Effects s (bitOperand b o s) :=
  Effects.readOperandThen fun _ => Effects.next.2 (setFlags_effect s _)

@[simp] theorem mapOperand_effect (f : Byte → Byte) (o : Operand8) (s : State) : Effects s (mapOperand f o s) :=
  Effects.readOperandThen fun _ => write8_effect o _ s

@[simp] theorem spRelative_effect (r : Reg16) (n : Byte) (s : State) : Effects s (spRelative r n s) :=
  Effects.next.2 ((setReg16_effect s r _).trans (setFlags_effect _ _))

@[simp] theorem addHl_effect (r : Reg16) (s : State) : Effects s (addHl r s) :=
  Effects.next.2 ((setReg16_effect s .hl _).trans (setFlags_effect _ _))

@[simp] theorem jumpIf_effect (cc : Cond) (a : Word) (s : State) : Effects s (jumpIf cc a s) := by
  unfold jumpIf
  refine Effects.next.2 ?_
  split
  · exact pc_effect s a
  · exact refl s

@[simp] theorem callIf_effect (cc : Cond) (a : Word) (s : State) : Effects s (callIf cc a s) := by
  unfold callIf
  split
  · exact callSub_effect a s
  · exact Effects.next.2 (refl s)

@[simp] theorem retIf_effect (cc : Cond) (s : State) : Effects s (retIf cc s) := by
  unfold retIf
  split
  · exact retSub_effect s
  · exact Effects.next.2 (refl s)

@[simp] theorem logIllegal_effect (op : Byte) (s : State) : Effects s (logIllegal op s) :=
  Effects.next.2 (ofRegs rfl id)

@[simp] theorem selectCb_effect (b : Byte) (s : State) : Effects s (selectCb b s) := by
  unfold selectCb
  simp only
  split <;> simp

theorem storeWord_effect (a : Word) (s : State) :
    Effects s (andThen (memWrite a (loByte s.sp) s) fun s => memWrite (a + 1) (hiByte s.sp) s) :=
  Effects.andThen (memWrite_effect _ _ _) fun _ _ => memWrite_effect _ _ _

theorem andThenHl_effect {s : State} {o : Result} (f : State → Word) (ho : Effects s o) :
    Effects s (andThen o fun m => .next (m.setReg16 .hl (f m))) :=
  Effects.andThen ho fun m _ => Effects.next.2 (setReg16_effect m .hl _)

theorem setAFlags_effect (s : State) (v : Byte) (g : Flags) : CpuEffect s ((s.setReg8 .a v).setFlags g) :=
  (setReg8_effect s .a v).trans (setFlags_effect _ g)

/-- What any instruction leads to. -/
theorem exec_effect (i : Instr) (s : State) : Effects s (exec i s) := by
  cases i <;> simp [refl, setAFlags_effect]
  case ldAtA16Sp a => exact storeWord_effect a s
  case ldAtHlIncA => exact andThenHl_effect (fun m => m.hl + 1) (memWrite_effect _ _ s)
  case ldAAtHlInc => exact andThenHl_effect (fun m => m.hl + 1) (loadFrom_effect _ _ s)
  case ldAtHlDecA => exact andThenHl_effect (fun m => m.hl - 1) (memWrite_effect _ _ s)
  case ldAAtHlDec => exact andThenHl_effect (fun m => m.hl - 1) (loadFrom_effect _ _ s)

end Sys2Proof.Machine
end

