-- ==== Sys2Proof/Laws/PerInstr.lean ====
section
/-! SUPPORT. One lemma per constructor: an instruction's bytes are its opcode and exactly the operand bytes the
machine fetches after that opcode (spec/30_encoding.md R121, R122, R134); STOP alone has one byte more, which is
never fetched. -/

namespace Sys2Proof.Laws.FetchLength

/-- The encoding of `i` is an opcode followed by the operand bytes of that opcode (R122, R134). -/
def Statement (i : Instr) : Prop :=
  ∃ op rest, encode i = op :: rest ∧ (op = 0x10 ∨ rest.length = operandCount op)

theorem nop : Statement .nop := ⟨_, _, rfl, .inr rfl⟩
theorem ldBcD16 (n : Word) : Statement (.ldBcD16 n) := ⟨_, _, rfl, .inr rfl⟩
theorem ldAtBcA : Statement .ldAtBcA := ⟨_, _, rfl, .inr rfl⟩
theorem incBc : Statement .incBc := ⟨_, _, rfl, .inr rfl⟩
theorem incB : Statement .incB := ⟨_, _, rfl, .inr rfl⟩
theorem decB : Statement .decB := ⟨_, _, rfl, .inr rfl⟩
theorem ldBD8 (n : Byte) : Statement (.ldBD8 n) := ⟨_, _, rfl, .inr rfl⟩
theorem rlca : Statement .rlca := ⟨_, _, rfl, .inr rfl⟩
theorem ldAtA16Sp (a : Word) : Statement (.ldAtA16Sp a) := ⟨_, _, rfl, .inr rfl⟩
theorem addHlBc : Statement .addHlBc := ⟨_, _, rfl, .inr rfl⟩
theorem ldAAtBc : Statement .ldAAtBc := ⟨_, _, rfl, .inr rfl⟩
theorem decBc : Statement .decBc := ⟨_, _, rfl, .inr rfl⟩
theorem incC : Statement .incC := ⟨_, _, rfl, .inr rfl⟩
theorem decC : Statement .decC := ⟨_, _, rfl, .inr rfl⟩
theorem ldCD8 (n : Byte) : Statement (.ldCD8 n) := ⟨_, _, rfl, .inr rfl⟩
theorem rrca : Statement .rrca := ⟨_, _, rfl, .inr rfl⟩
theorem stop : Statement .stop := ⟨_, _, rfl, .inl rfl⟩
theorem ldDeD16 (n : Word) : Statement (.ldDeD16 n) := ⟨_, _, rfl, .inr rfl⟩
theorem ldAtDeA : Statement .ldAtDeA := ⟨_, _, rfl, .inr rfl⟩
theorem incDe : Statement .incDe := ⟨_, _, rfl, .inr rfl⟩
theorem incD : Statement .incD := ⟨_, _, rfl, .inr rfl⟩
theorem decD : Statement .decD := ⟨_, _, rfl, .inr rfl⟩
theorem ldDD8 (n : Byte) : Statement (.ldDD8 n) := ⟨_, _, rfl, .inr rfl⟩
theorem rla : Statement .rla := ⟨_, _, rfl, .inr rfl⟩
theorem jrE8 (n : Byte) : Statement (.jrE8 n) := ⟨_, _, rfl, .inr rfl⟩
theorem addHlDe : Statement .addHlDe := ⟨_, _, rfl, .inr rfl⟩
theorem ldAAtDe : Statement .ldAAtDe := ⟨_, _, rfl, .inr rfl⟩
theorem decDe : Statement .decDe := ⟨_, _, rfl, .inr rfl⟩
theorem incE : Statement .incE := ⟨_, _, rfl, .inr rfl⟩
theorem decE : Statement .decE := ⟨_, _, rfl, .inr rfl⟩
theorem ldED8 (n : Byte) : Statement (.ldED8 n) := ⟨_, _, rfl, .inr rfl⟩
theorem rra : Statement .rra := ⟨_, _, rfl, .inr rfl⟩
theorem jrNzE8 (n : Byte) : Statement (.jrNzE8 n) := ⟨_, _, rfl, .inr rfl⟩
theorem ldHlD16 (n : Word) : Statement (.ldHlD16 n) := ⟨_, _, rfl, .inr rfl⟩
theorem ldAtHlIncA : Statement .ldAtHlIncA := ⟨_, _, rfl, .inr rfl⟩
theorem incHl : Statement .incHl := ⟨_, _, rfl, .inr rfl⟩
theorem incH : Statement .incH := ⟨_, _, rfl, .inr rfl⟩
theorem decH : Statement .decH := ⟨_, _, rfl, .inr rfl⟩
theorem ldHD8 (n : Byte) : Statement (.ldHD8 n) := ⟨_, _, rfl, .inr rfl⟩
theorem daa : Statement .daa := ⟨_, _, rfl, .inr rfl⟩
theorem jrZE8 (n : Byte) : Statement (.jrZE8 n) := ⟨_, _, rfl, .inr rfl⟩
theorem addHlHl : Statement .addHlHl := ⟨_, _, rfl, .inr rfl⟩
theorem ldAAtHlInc : Statement .ldAAtHlInc := ⟨_, _, rfl, .inr rfl⟩
theorem decHl : Statement .decHl := ⟨_, _, rfl, .inr rfl⟩
theorem incL : Statement .incL := ⟨_, _, rfl, .inr rfl⟩
theorem decL : Statement .decL := ⟨_, _, rfl, .inr rfl⟩
theorem ldLD8 (n : Byte) : Statement (.ldLD8 n) := ⟨_, _, rfl, .inr rfl⟩
theorem cpl : Statement .cpl := ⟨_, _, rfl, .inr rfl⟩
theorem jrNcE8 (n : Byte) : Statement (.jrNcE8 n) := ⟨_, _, rfl, .inr rfl⟩
theorem ldSpD16 (n : Word) : Statement (.ldSpD16 n) := ⟨_, _, rfl, .inr rfl⟩
theorem ldAtHlDecA : Statement .ldAtHlDecA := ⟨_, _, rfl, .inr rfl⟩
theorem incSp : Statement .incSp := ⟨_, _, rfl, .inr rfl⟩
theorem incAtHl : Statement .incAtHl := ⟨_, _, rfl, .inr rfl⟩
theorem decAtHl : Statement .decAtHl := ⟨_, _, rfl, .inr rfl⟩
theorem ldAtHlD8 (n : Byte) : Statement (.ldAtHlD8 n) := ⟨_, _, rfl, .inr rfl⟩
theorem scf : Statement .scf := ⟨_, _, rfl, .inr rfl⟩
theorem jrCE8 (n : Byte) : Statement (.jrCE8 n) := ⟨_, _, rfl, .inr rfl⟩
theorem addHlSp : Statement .addHlSp := ⟨_, _, rfl, .inr rfl⟩
theorem ldAAtHlDec : Statement .ldAAtHlDec := ⟨_, _, rfl, .inr rfl⟩
theorem decSp : Statement .decSp := ⟨_, _, rfl, .inr rfl⟩
theorem incA : Statement .incA := ⟨_, _, rfl, .inr rfl⟩
theorem decA : Statement .decA := ⟨_, _, rfl, .inr rfl⟩
theorem ldAD8 (n : Byte) : Statement (.ldAD8 n) := ⟨_, _, rfl, .inr rfl⟩
theorem ccf : Statement .ccf := ⟨_, _, rfl, .inr rfl⟩
theorem ldBB : Statement .ldBB := ⟨_, _, rfl, .inr rfl⟩
theorem ldBC : Statement .ldBC := ⟨_, _, rfl, .inr rfl⟩
theorem ldBD : Statement .ldBD := ⟨_, _, rfl, .inr rfl⟩
theorem ldBE : Statement .ldBE := ⟨_, _, rfl, .inr rfl⟩
theorem ldBH : Statement .ldBH := ⟨_, _, rfl, .inr rfl⟩
theorem ldBL : Statement .ldBL := ⟨_, _, rfl, .inr rfl⟩
theorem ldBAtHl : Statement .ldBAtHl := ⟨_, _, rfl, .inr rfl⟩
theorem ldBA : Statement .ldBA := ⟨_, _, rfl, .inr rfl⟩
theorem ldCB : Statement .ldCB := ⟨_, _, rfl, .inr rfl⟩
theorem ldCC : Statement .ldCC := ⟨_, _, rfl, .inr rfl⟩
theorem ldCD : Statement .ldCD := ⟨_, _, rfl, .inr rfl⟩
theorem ldCE : Statement .ldCE := ⟨_, _, rfl, .inr rfl⟩
theorem ldCH : Statement .ldCH := ⟨_, _, rfl, .inr rfl⟩
theorem ldCL : Statement .ldCL := ⟨_, _, rfl, .inr rfl⟩
theorem ldCAtHl : Statement .ldCAtHl := ⟨_, _, rfl, .inr rfl⟩
theorem ldCA : Statement .ldCA := ⟨_, _, rfl, .inr rfl⟩
theorem ldDB : Statement .ldDB := ⟨_, _, rfl, .inr rfl⟩
theorem ldDC : Statement .ldDC := ⟨_, _, rfl, .inr rfl⟩
theorem ldDD : Statement .ldDD := ⟨_, _, rfl, .inr rfl⟩
theorem ldDE : Statement .ldDE := ⟨_, _, rfl, .inr rfl⟩
theorem ldDH : Statement .ldDH := ⟨_, _, rfl, .inr rfl⟩
theorem ldDL : Statement .ldDL := ⟨_, _, rfl, .inr rfl⟩
theorem ldDAtHl : Statement .ldDAtHl := ⟨_, _, rfl, .inr rfl⟩
theorem ldDA : Statement .ldDA := ⟨_, _, rfl, .inr rfl⟩
theorem ldEB : Statement .ldEB := ⟨_, _, rfl, .inr rfl⟩
theorem ldEC : Statement .ldEC := ⟨_, _, rfl, .inr rfl⟩
theorem ldED : Statement .ldED := ⟨_, _, rfl, .inr rfl⟩
theorem ldEE : Statement .ldEE := ⟨_, _, rfl, .inr rfl⟩
theorem ldEH : Statement .ldEH := ⟨_, _, rfl, .inr rfl⟩
theorem ldEL : Statement .ldEL := ⟨_, _, rfl, .inr rfl⟩
theorem ldEAtHl : Statement .ldEAtHl := ⟨_, _, rfl, .inr rfl⟩
theorem ldEA : Statement .ldEA := ⟨_, _, rfl, .inr rfl⟩
theorem ldHB : Statement .ldHB := ⟨_, _, rfl, .inr rfl⟩
theorem ldHC : Statement .ldHC := ⟨_, _, rfl, .inr rfl⟩
theorem ldHD : Statement .ldHD := ⟨_, _, rfl, .inr rfl⟩
theorem ldHE : Statement .ldHE := ⟨_, _, rfl, .inr rfl⟩
theorem ldHH : Statement .ldHH := ⟨_, _, rfl, .inr rfl⟩
theorem ldHL : Statement .ldHL := ⟨_, _, rfl, .inr rfl⟩
theorem ldHAtHl : Statement .ldHAtHl := ⟨_, _, rfl, .inr rfl⟩
theorem ldHA : Statement .ldHA := ⟨_, _, rfl, .inr rfl⟩
theorem ldLB : Statement .ldLB := ⟨_, _, rfl, .inr rfl⟩
theorem ldLC : Statement .ldLC := ⟨_, _, rfl, .inr rfl⟩
theorem ldLD : Statement .ldLD := ⟨_, _, rfl, .inr rfl⟩
theorem ldLE : Statement .ldLE := ⟨_, _, rfl, .inr rfl⟩
theorem ldLH : Statement .ldLH := ⟨_, _, rfl, .inr rfl⟩
theorem ldLL : Statement .ldLL := ⟨_, _, rfl, .inr rfl⟩
theorem ldLAtHl : Statement .ldLAtHl := ⟨_, _, rfl, .inr rfl⟩
theorem ldLA : Statement .ldLA := ⟨_, _, rfl, .inr rfl⟩
theorem ldAtHlB : Statement .ldAtHlB := ⟨_, _, rfl, .inr rfl⟩
theorem ldAtHlC : Statement .ldAtHlC := ⟨_, _, rfl, .inr rfl⟩
theorem ldAtHlD : Statement .ldAtHlD := ⟨_, _, rfl, .inr rfl⟩
theorem ldAtHlE : Statement .ldAtHlE := ⟨_, _, rfl, .inr rfl⟩
theorem ldAtHlH : Statement .ldAtHlH := ⟨_, _, rfl, .inr rfl⟩
theorem ldAtHlL : Statement .ldAtHlL := ⟨_, _, rfl, .inr rfl⟩
theorem halt : Statement .halt := ⟨_, _, rfl, .inr rfl⟩
theorem ldAtHlA : Statement .ldAtHlA := ⟨_, _, rfl, .inr rfl⟩
theorem ldAB : Statement .ldAB := ⟨_, _, rfl, .inr rfl⟩
theorem ldAC : Statement .ldAC := ⟨_, _, rfl, .inr rfl⟩
theorem ldAD : Statement .ldAD := ⟨_, _, rfl, .inr rfl⟩
theorem ldAE : Statement .ldAE := ⟨_, _, rfl, .inr rfl⟩
theorem ldAH : Statement .ldAH := ⟨_, _, rfl, .inr rfl⟩
theorem ldAL : Statement .ldAL := ⟨_, _, rfl, .inr rfl⟩
theorem ldAAtHl : Statement .ldAAtHl := ⟨_, _, rfl, .inr rfl⟩
theorem ldAA : Statement .ldAA := ⟨_, _, rfl, .inr rfl⟩
theorem addAB : Statement .addAB := ⟨_, _, rfl, .inr rfl⟩
theorem addAC : Statement .addAC := ⟨_, _, rfl, .inr rfl⟩
theorem addAD : Statement .addAD := ⟨_, _, rfl, .inr rfl⟩
theorem addAE : Statement .addAE := ⟨_, _, rfl, .inr rfl⟩
theorem addAH : Statement .addAH := ⟨_, _, rfl, .inr rfl⟩
theorem addAL : Statement .addAL := ⟨_, _, rfl, .inr rfl⟩
theorem addAAtHl : Statement .addAAtHl := ⟨_, _, rfl, .inr rfl⟩
theorem addAA : Statement .addAA := ⟨_, _, rfl, .inr rfl⟩
theorem adcAB : Statement .adcAB := ⟨_, _, rfl, .inr rfl⟩
theorem adcAC : Statement .adcAC := ⟨_, _, rfl, .inr rfl⟩
theorem adcAD : Statement .adcAD := ⟨_, _, rfl, .inr rfl⟩
theorem adcAE : Statement .adcAE := ⟨_, _, rfl, .inr rfl⟩
theorem adcAH : Statement .adcAH := ⟨_, _, rfl, .inr rfl⟩
theorem adcAL : Statement .adcAL := ⟨_, _, rfl, .inr rfl⟩
theorem adcAAtHl : Statement .adcAAtHl := ⟨_, _, rfl, .inr rfl⟩
theorem adcAA : Statement .adcAA := ⟨_, _, rfl, .inr rfl⟩
theorem subB : Statement .subB := ⟨_, _, rfl, .inr rfl⟩
theorem subC : Statement .subC := ⟨_, _, rfl, .inr rfl⟩
theorem subD : Statement .subD := ⟨_, _, rfl, .inr rfl⟩
theorem subE : Statement .subE := ⟨_, _, rfl, .inr rfl⟩
theorem subH : Statement .subH := ⟨_, _, rfl, .inr rfl⟩
theorem subL : Statement .subL := ⟨_, _, rfl, .inr rfl⟩
theorem subAtHl : Statement .subAtHl := ⟨_, _, rfl, .inr rfl⟩
theorem subA : Statement .subA := ⟨_, _, rfl, .inr rfl⟩
theorem sbcAB : Statement .sbcAB := ⟨_, _, rfl, .inr rfl⟩
theorem sbcAC : Statement .sbcAC := ⟨_, _, rfl, .inr rfl⟩
theorem sbcAD : Statement .sbcAD := ⟨_, _, rfl, .inr rfl⟩
theorem sbcAE : Statement .sbcAE := ⟨_, _, rfl, .inr rfl⟩
theorem sbcAH : Statement .sbcAH := ⟨_, _, rfl, .inr rfl⟩
theorem sbcAL : Statement .sbcAL := ⟨_, _, rfl, .inr rfl⟩
theorem sbcAAtHl : Statement .sbcAAtHl := ⟨_, _, rfl, .inr rfl⟩
theorem sbcAA : Statement .sbcAA := ⟨_, _, rfl, .inr rfl⟩
theorem andB : Statement .andB := ⟨_, _, rfl, .inr rfl⟩
theorem andC : Statement .andC := ⟨_, _, rfl, .inr rfl⟩
theorem andD : Statement .andD := ⟨_, _, rfl, .inr rfl⟩
theorem andE : Statement .andE := ⟨_, _, rfl, .inr rfl⟩
theorem andH : Statement .andH := ⟨_, _, rfl, .inr rfl⟩
theorem andL : Statement .andL := ⟨_, _, rfl, .inr rfl⟩
theorem andAtHl : Statement .andAtHl := ⟨_, _, rfl, .inr rfl⟩
theorem andA : Statement .andA := ⟨_, _, rfl, .inr rfl⟩
theorem xorB : Statement .xorB := ⟨_, _, rfl, .inr rfl⟩
theorem xorC : Statement .xorC := ⟨_, _, rfl, .inr rfl⟩
theorem xorD : Statement .xorD := ⟨_, _, rfl, .inr rfl⟩
theorem xorE : Statement .xorE := ⟨_, _, rfl, .inr rfl⟩
theorem xorH : Statement .xorH := ⟨_, _, rfl, .inr rfl⟩
theorem xorL : Statement .xorL := ⟨_, _, rfl, .inr rfl⟩
theorem xorAtHl : Statement .xorAtHl := ⟨_, _, rfl, .inr rfl⟩
theorem xorA : Statement .xorA := ⟨_, _, rfl, .inr rfl⟩
theorem orB : Statement .orB := ⟨_, _, rfl, .inr rfl⟩
theorem orC : Statement .orC := ⟨_, _, rfl, .inr rfl⟩
theorem orD : Statement .orD := ⟨_, _, rfl, .inr rfl⟩
theorem orE : Statement .orE := ⟨_, _, rfl, .inr rfl⟩
theorem orH : Statement .orH := ⟨_, _, rfl, .inr rfl⟩
theorem orL : Statement .orL := ⟨_, _, rfl, .inr rfl⟩
theorem orAtHl : Statement .orAtHl := ⟨_, _, rfl, .inr rfl⟩
theorem orA : Statement .orA := ⟨_, _, rfl, .inr rfl⟩
theorem cpB : Statement .cpB := ⟨_, _, rfl, .inr rfl⟩
theorem cpC : Statement .cpC := ⟨_, _, rfl, .inr rfl⟩
theorem cpD : Statement .cpD := ⟨_, _, rfl, .inr rfl⟩
theorem cpE : Statement .cpE := ⟨_, _, rfl, .inr rfl⟩
theorem cpH : Statement .cpH := ⟨_, _, rfl, .inr rfl⟩
theorem cpL : Statement .cpL := ⟨_, _, rfl, .inr rfl⟩
theorem cpAtHl : Statement .cpAtHl := ⟨_, _, rfl, .inr rfl⟩
theorem cpA : Statement .cpA := ⟨_, _, rfl, .inr rfl⟩
theorem retNz : Statement .retNz := ⟨_, _, rfl, .inr rfl⟩
theorem popBc : Statement .popBc := ⟨_, _, rfl, .inr rfl⟩
theorem jpNzA16 (a : Word) : Statement (.jpNzA16 a) := ⟨_, _, rfl, .inr rfl⟩
theorem jpA16 (a : Word) : Statement (.jpA16 a) := ⟨_, _, rfl, .inr rfl⟩
theorem callNzA16 (a : Word) : Statement (.callNzA16 a) := ⟨_, _, rfl, .inr rfl⟩
theorem pushBc : Statement .pushBc := ⟨_, _, rfl, .inr rfl⟩
theorem addAD8 (n : Byte) : Statement (.addAD8 n) := ⟨_, _, rfl, .inr rfl⟩
theorem rst00 : Statement .rst00 := ⟨_, _, rfl, .inr rfl⟩
theorem retZ : Statement .retZ := ⟨_, _, rfl, .inr rfl⟩
theorem ret : Statement .ret := ⟨_, _, rfl, .inr rfl⟩
theorem jpZA16 (a : Word) : Statement (.jpZA16 a) := ⟨_, _, rfl, .inr rfl⟩
theorem prefixCb (n : Byte) : Statement (.prefixCb n) := ⟨_, _, rfl, .inr rfl⟩
theorem callZA16 (a : Word) : Statement (.callZA16 a) := ⟨_, _, rfl, .inr rfl⟩
theorem callA16 (a : Word) : Statement (.callA16 a) := ⟨_, _, rfl, .inr rfl⟩
theorem adcAD8 (n : Byte) : Statement (.adcAD8 n) := ⟨_, _, rfl, .inr rfl⟩
theorem rst08 : Statement .rst08 := ⟨_, _, rfl, .inr rfl⟩
theorem retNc : Statement .retNc := ⟨_, _, rfl, .inr rfl⟩
theorem popDe : Statement .popDe := ⟨_, _, rfl, .inr rfl⟩
theorem jpNcA16 (a : Word) : Statement (.jpNcA16 a) := ⟨_, _, rfl, .inr rfl⟩
theorem illegalD3 : Statement .illegalD3 := ⟨_, _, rfl, .inr rfl⟩
theorem callNcA16 (a : Word) : Statement (.callNcA16 a) := ⟨_, _, rfl, .inr rfl⟩
theorem pushDe : Statement .pushDe := ⟨_, _, rfl, .inr rfl⟩
theorem subD8 (n : Byte) : Statement (.subD8 n) := ⟨_, _, rfl, .inr rfl⟩
theorem rst10 : Statement .rst10 := ⟨_, _, rfl, .inr rfl⟩
theorem retC : Statement .retC := ⟨_, _, rfl, .inr rfl⟩
theorem reti : Statement .reti := ⟨_, _, rfl, .inr rfl⟩
theorem jpCA16 (a : Word) : Statement (.jpCA16 a) := ⟨_, _, rfl, .inr rfl⟩
theorem illegalDB : Statement .illegalDB := ⟨_, _, rfl, .inr rfl⟩
theorem callCA16 (a : Word) : Statement (.callCA16 a) := ⟨_, _, rfl, .inr rfl⟩
theorem illegalDD : Statement .illegalDD := ⟨_, _, rfl, .inr rfl⟩
theorem sbcAD8 (n : Byte) : Statement (.sbcAD8 n) := ⟨_, _, rfl, .inr rfl⟩
theorem rst18 : Statement .rst18 := ⟨_, _, rfl, .inr rfl⟩
theorem ldhAtA8A (n : Byte) : Statement (.ldhAtA8A n) := ⟨_, _, rfl, .inr rfl⟩
theorem popHl : Statement .popHl := ⟨_, _, rfl, .inr rfl⟩
theorem ldAtCA : Statement .ldAtCA := ⟨_, _, rfl, .inr rfl⟩
theorem illegalE3 : Statement .illegalE3 := ⟨_, _, rfl, .inr rfl⟩
theorem illegalE4 : Statement .illegalE4 := ⟨_, _, rfl, .inr rfl⟩
theorem pushHl : Statement .pushHl := ⟨_, _, rfl, .inr rfl⟩
theorem andD8 (n : Byte) : Statement (.andD8 n) := ⟨_, _, rfl, .inr rfl⟩
theorem rst20 : Statement .rst20 := ⟨_, _, rfl, .inr rfl⟩
theorem addSpE8 (n : Byte) : Statement (.addSpE8 n) := ⟨_, _, rfl, .inr rfl⟩
theorem jpHl : Statement .jpHl := ⟨_, _, rfl, .inr rfl⟩
theorem ldAtA16A (a : Word) : Statement (.ldAtA16A a) := ⟨_, _, rfl, .inr rfl⟩
theorem illegalEB : Statement .illegalEB := ⟨_, _, rfl, .inr rfl⟩
theorem illegalEC : Statement .illegalEC := ⟨_, _, rfl, .inr rfl⟩
theorem illegalED : Statement .illegalED := ⟨_, _, rfl, .inr rfl⟩
theorem xorD8 (n : Byte) : Statement (.xorD8 n) := ⟨_, _, rfl, .inr rfl⟩
theorem rst28 : Statement .rst28 := ⟨_, _, rfl, .inr rfl⟩
theorem ldhAAtA8 (n : Byte) : Statement (.ldhAAtA8 n) := ⟨_, _, rfl, .inr rfl⟩
theorem popAf : Statement .popAf := ⟨_, _, rfl, .inr rfl⟩
theorem ldAAtC : Statement .ldAAtC := ⟨_, _, rfl, .inr rfl⟩
theorem di : Statement .di := ⟨_, _, rfl, .inr rfl⟩
theorem illegalF4 : Statement .illegalF4 := ⟨_, _, rfl, .inr rfl⟩
theorem pushAf : Statement .pushAf := ⟨_, _, rfl, .inr rfl⟩
theorem orD8 (n : Byte) : Statement (.orD8 n) := ⟨_, _, rfl, .inr rfl⟩
theorem rst30 : Statement .rst30 := ⟨_, _, rfl, .inr rfl⟩
theorem ldHlSpE8 (n : Byte) : Statement (.ldHlSpE8 n) := ⟨_, _, rfl, .inr rfl⟩
theorem ldSpHl : Statement .ldSpHl := ⟨_, _, rfl, .inr rfl⟩
theorem ldAAtA16 (a : Word) : Statement (.ldAAtA16 a) := ⟨_, _, rfl, .inr rfl⟩
theorem ei : Statement .ei := ⟨_, _, rfl, .inr rfl⟩
theorem illegalFC : Statement .illegalFC := ⟨_, _, rfl, .inr rfl⟩
theorem illegalFD : Statement .illegalFD := ⟨_, _, rfl, .inr rfl⟩
theorem cpD8 (n : Byte) : Statement (.cpD8 n) := ⟨_, _, rfl, .inr rfl⟩
theorem rst38 : Statement .rst38 := ⟨_, _, rfl, .inr rfl⟩
theorem rlcB : Statement .rlcB := ⟨_, _, rfl, .inr rfl⟩
theorem rlcC : Statement .rlcC := ⟨_, _, rfl, .inr rfl⟩
theorem rlcD : Statement .rlcD := ⟨_, _, rfl, .inr rfl⟩
theorem rlcE : Statement .rlcE := ⟨_, _, rfl, .inr rfl⟩
theorem rlcH : Statement .rlcH := ⟨_, _, rfl, .inr rfl⟩
theorem rlcL : Statement .rlcL := ⟨_, _, rfl, .inr rfl⟩
theorem rlcAtHl : Statement .rlcAtHl := ⟨_, _, rfl, .inr rfl⟩
theorem rlcA : Statement .rlcA := ⟨_, _, rfl, .inr rfl⟩
theorem rrcB : Statement .rrcB := ⟨_, _, rfl, .inr rfl⟩
theorem rrcC : Statement .rrcC := ⟨_, _, rfl, .inr rfl⟩
theorem rrcD : Statement .rrcD := ⟨_, _, rfl, .inr rfl⟩
theorem rrcE : Statement .rrcE := ⟨_, _, rfl, .inr rfl⟩
theorem rrcH : Statement .rrcH := ⟨_, _, rfl, .inr rfl⟩
theorem rrcL : Statement .rrcL := ⟨_, _, rfl, .inr rfl⟩
theorem rrcAtHl : Statement .rrcAtHl := ⟨_, _, rfl, .inr rfl⟩
theorem rrcA : Statement .rrcA := ⟨_, _, rfl, .inr rfl⟩
theorem rlB : Statement .rlB := ⟨_, _, rfl, .inr rfl⟩
theorem rlC : Statement .rlC := ⟨_, _, rfl, .inr rfl⟩
theorem rlD : Statement .rlD := ⟨_, _, rfl, .inr rfl⟩
theorem rlE : Statement .rlE := ⟨_, _, rfl, .inr rfl⟩
theorem rlH : Statement .rlH := ⟨_, _, rfl, .inr rfl⟩
theorem rlL : Statement .rlL := ⟨_, _, rfl, .inr rfl⟩
theorem rlAtHl : Statement .rlAtHl := ⟨_, _, rfl, .inr rfl⟩
theorem rlA : Statement .rlA := ⟨_, _, rfl, .inr rfl⟩
theorem rrB : Statement .rrB := ⟨_, _, rfl, .inr rfl⟩
theorem rrC : Statement .rrC := ⟨_, _, rfl, .inr rfl⟩
theorem rrD : Statement .rrD := ⟨_, _, rfl, .inr rfl⟩
theorem rrE : Statement .rrE := ⟨_, _, rfl, .inr rfl⟩
theorem rrH : Statement .rrH := ⟨_, _, rfl, .inr rfl⟩
theorem rrL : Statement .rrL := ⟨_, _, rfl, .inr rfl⟩
theorem rrAtHl : Statement .rrAtHl := ⟨_, _, rfl, .inr rfl⟩
theorem rrA : Statement .rrA := ⟨_, _, rfl, .inr rfl⟩
theorem slaB : Statement .slaB := ⟨_, _, rfl, .inr rfl⟩
theorem slaC : Statement .slaC := ⟨_, _, rfl, .inr rfl⟩
theorem slaD : Statement .slaD := ⟨_, _, rfl, .inr rfl⟩
theorem slaE : Statement .slaE := ⟨_, _, rfl, .inr rfl⟩
theorem slaH : Statement .slaH := ⟨_, _, rfl, .inr rfl⟩
theorem slaL : Statement .slaL := ⟨_, _, rfl, .inr rfl⟩
theorem slaAtHl : Statement .slaAtHl := ⟨_, _, rfl, .inr rfl⟩
theorem slaA : Statement .slaA := ⟨_, _, rfl, .inr rfl⟩
theorem sraB : Statement .sraB := ⟨_, _, rfl, .inr rfl⟩
theorem sraC : Statement .sraC := ⟨_, _, rfl, .inr rfl⟩
theorem sraD : Statement .sraD := ⟨_, _, rfl, .inr rfl⟩
theorem sraE : Statement .sraE := ⟨_, _, rfl, .inr rfl⟩
theorem sraH : Statement .sraH := ⟨_, _, rfl, .inr rfl⟩
theorem sraL : Statement .sraL := ⟨_, _, rfl, .inr rfl⟩
theorem sraAtHl : Statement .sraAtHl := ⟨_, _, rfl, .inr rfl⟩
theorem sraA : Statement .sraA := ⟨_, _, rfl, .inr rfl⟩
theorem swapB : Statement .swapB := ⟨_, _, rfl, .inr rfl⟩
theorem swapC : Statement .swapC := ⟨_, _, rfl, .inr rfl⟩
theorem swapD : Statement .swapD := ⟨_, _, rfl, .inr rfl⟩
theorem swapE : Statement .swapE := ⟨_, _, rfl, .inr rfl⟩
theorem swapH : Statement .swapH := ⟨_, _, rfl, .inr rfl⟩
theorem swapL : Statement .swapL := ⟨_, _, rfl, .inr rfl⟩
theorem swapAtHl : Statement .swapAtHl := ⟨_, _, rfl, .inr rfl⟩
theorem swapA : Statement .swapA := ⟨_, _, rfl, .inr rfl⟩
theorem srlB : Statement .srlB := ⟨_, _, rfl, .inr rfl⟩
theorem srlC : Statement .srlC := ⟨_, _, rfl, .inr rfl⟩
theorem srlD : Statement .srlD := ⟨_, _, rfl, .inr rfl⟩
theorem srlE : Statement .srlE := ⟨_, _, rfl, .inr rfl⟩
theorem srlH : Statement .srlH := ⟨_, _, rfl, .inr rfl⟩
theorem srlL : Statement .srlL := ⟨_, _, rfl, .inr rfl⟩
theorem srlAtHl : Statement .srlAtHl := ⟨_, _, rfl, .inr rfl⟩
theorem srlA : Statement .srlA := ⟨_, _, rfl, .inr rfl⟩
theorem bit0B : Statement .bit0B := ⟨_, _, rfl, .inr rfl⟩
theorem bit0C : Statement .bit0C := ⟨_, _, rfl, .inr rfl⟩
theorem bit0D : Statement .bit0D := ⟨_, _, rfl, .inr rfl⟩
theorem bit0E : Statement .bit0E := ⟨_, _, rfl, .inr rfl⟩
theorem bit0H : Statement .bit0H := ⟨_, _, rfl, .inr rfl⟩
theorem bit0L : Statement .bit0L := ⟨_, _, rfl, .inr rfl⟩
theorem bit0AtHl : Statement .bit0AtHl := ⟨_, _, rfl, .inr rfl⟩
theorem bit0A : Statement .bit0A := ⟨_, _, rfl, .inr rfl⟩
theorem bit1B : Statement .bit1B := ⟨_, _, rfl, .inr rfl⟩
theorem bit1C : Statement .bit1C := ⟨_, _, rfl, .inr rfl⟩
theorem bit1D : Statement .bit1D := ⟨_, _, rfl, .inr rfl⟩
theorem bit1E : Statement .bit1E := ⟨_, _, rfl, .inr rfl⟩
theorem bit1H : Statement .bit1H := ⟨_, _, rfl, .inr rfl⟩
theorem bit1L : Statement .bit1L := ⟨_, _, rfl, .inr rfl⟩
theorem bit1AtHl : Statement .bit1AtHl := ⟨_, _, rfl, .inr rfl⟩
theorem bit1A : Statement .bit1A := ⟨_, _, rfl, .inr rfl⟩
theorem bit2B : Statement .bit2B := ⟨_, _, rfl, .inr rfl⟩
theorem bit2C : Statement .bit2C := ⟨_, _, rfl, .inr rfl⟩
theorem bit2D : Statement .bit2D := ⟨_, _, rfl, .inr rfl⟩
theorem bit2E : Statement .bit2E := ⟨_, _, rfl, .inr rfl⟩
theorem bit2H : Statement .bit2H := ⟨_, _, rfl, .inr rfl⟩
theorem bit2L : Statement .bit2L := ⟨_, _, rfl, .inr rfl⟩
theorem bit2AtHl : Statement .bit2AtHl := ⟨_, _, rfl, .inr rfl⟩
theorem bit2A : Statement .bit2A := ⟨_, _, rfl, .inr rfl⟩
theorem bit3B : Statement .bit3B := ⟨_, _, rfl, .inr rfl⟩
theorem bit3C : Statement .bit3C := ⟨_, _, rfl, .inr rfl⟩
theorem bit3D : Statement .bit3D := ⟨_, _, rfl, .inr rfl⟩
theorem bit3E : Statement .bit3E := ⟨_, _, rfl, .inr rfl⟩
theorem bit3H : Statement .bit3H := ⟨_, _, rfl, .inr rfl⟩
theorem bit3L : Statement .bit3L := ⟨_, _, rfl, .inr rfl⟩
theorem bit3AtHl : Statement .bit3AtHl := ⟨_, _, rfl, .inr rfl⟩
theorem bit3A : Statement .bit3A := ⟨_, _, rfl, .inr rfl⟩
theorem bit4B : Statement .bit4B := ⟨_, _, rfl, .inr rfl⟩
theorem bit4C : Statement .bit4C := ⟨_, _, rfl, .inr rfl⟩
theorem bit4D : Statement .bit4D := ⟨_, _, rfl, .inr rfl⟩
theorem bit4E : Statement .bit4E := ⟨_, _, rfl, .inr rfl⟩
theorem bit4H : Statement .bit4H := ⟨_, _, rfl, .inr rfl⟩
theorem bit4L : Statement .bit4L := ⟨_, _, rfl, .inr rfl⟩
theorem bit4AtHl : Statement .bit4AtHl := ⟨_, _, rfl, .inr rfl⟩
theorem bit4A : Statement .bit4A := ⟨_, _, rfl, .inr rfl⟩
theorem bit5B : Statement .bit5B := ⟨_, _, rfl, .inr rfl⟩
theorem bit5C : Statement .bit5C := ⟨_, _, rfl, .inr rfl⟩
theorem bit5D : Statement .bit5D := ⟨_, _, rfl, .inr rfl⟩
theorem bit5E : Statement .bit5E := ⟨_, _, rfl, .inr rfl⟩
theorem bit5H : Statement .bit5H := ⟨_, _, rfl, .inr rfl⟩
theorem bit5L : Statement .bit5L := ⟨_, _, rfl, .inr rfl⟩
theorem bit5AtHl : Statement .bit5AtHl := ⟨_, _, rfl, .inr rfl⟩
theorem bit5A : Statement .bit5A := ⟨_, _, rfl, .inr rfl⟩
theorem bit6B : Statement .bit6B := ⟨_, _, rfl, .inr rfl⟩
theorem bit6C : Statement .bit6C := ⟨_, _, rfl, .inr rfl⟩
theorem bit6D : Statement .bit6D := ⟨_, _, rfl, .inr rfl⟩
theorem bit6E : Statement .bit6E := ⟨_, _, rfl, .inr rfl⟩
theorem bit6H : Statement .bit6H := ⟨_, _, rfl, .inr rfl⟩
theorem bit6L : Statement .bit6L := ⟨_, _, rfl, .inr rfl⟩
theorem bit6AtHl : Statement .bit6AtHl := ⟨_, _, rfl, .inr rfl⟩
theorem bit6A : Statement .bit6A := ⟨_, _, rfl, .inr rfl⟩
theorem bit7B : Statement .bit7B := ⟨_, _, rfl, .inr rfl⟩
theorem bit7C : Statement .bit7C := ⟨_, _, rfl, .inr rfl⟩
theorem bit7D : Statement .bit7D := ⟨_, _, rfl, .inr rfl⟩
theorem bit7E : Statement .bit7E := ⟨_, _, rfl, .inr rfl⟩
theorem bit7H : Statement .bit7H := ⟨_, _, rfl, .inr rfl⟩
theorem bit7L : Statement .bit7L := ⟨_, _, rfl, .inr rfl⟩
theorem bit7AtHl : Statement .bit7AtHl := ⟨_, _, rfl, .inr rfl⟩
theorem bit7A : Statement .bit7A := ⟨_, _, rfl, .inr rfl⟩
theorem res0B : Statement .res0B := ⟨_, _, rfl, .inr rfl⟩
theorem res0C : Statement .res0C := ⟨_, _, rfl, .inr rfl⟩
theorem res0D : Statement .res0D := ⟨_, _, rfl, .inr rfl⟩
theorem res0E : Statement .res0E := ⟨_, _, rfl, .inr rfl⟩
theorem res0H : Statement .res0H := ⟨_, _, rfl, .inr rfl⟩
theorem res0L : Statement .res0L := ⟨_, _, rfl, .inr rfl⟩
theorem res0AtHl : Statement .res0AtHl := ⟨_, _, rfl, .inr rfl⟩
theorem res0A : Statement .res0A := ⟨_, _, rfl, .inr rfl⟩
theorem res1B : Statement .res1B := ⟨_, _, rfl, .inr rfl⟩
theorem res1C : Statement .res1C := ⟨_, _, rfl, .inr rfl⟩
theorem res1D : Statement .res1D := ⟨_, _, rfl, .inr rfl⟩
theorem res1E : Statement .res1E := ⟨_, _, rfl, .inr rfl⟩
theorem res1H : Statement .res1H := ⟨_, _, rfl, .inr rfl⟩
theorem res1L : Statement .res1L := ⟨_, _, rfl, .inr rfl⟩
theorem res1AtHl : Statement .res1AtHl := ⟨_, _, rfl, .inr rfl⟩
theorem res1A : Statement .res1A := ⟨_, _, rfl, .inr rfl⟩
theorem res2B : Statement .res2B := ⟨_, _, rfl, .inr rfl⟩
theorem res2C : Statement .res2C := ⟨_, _, rfl, .inr rfl⟩
theorem res2D : Statement .res2D := ⟨_, _, rfl, .inr rfl⟩
theorem res2E : Statement .res2E := ⟨_, _, rfl, .inr rfl⟩
theorem res2H : Statement .res2H := ⟨_, _, rfl, .inr rfl⟩
theorem res2L : Statement .res2L := ⟨_, _, rfl, .inr rfl⟩
theorem res2AtHl : Statement .res2AtHl := ⟨_, _, rfl, .inr rfl⟩
theorem res2A : Statement .res2A := ⟨_, _, rfl, .inr rfl⟩
theorem res3B : Statement .res3B := ⟨_, _, rfl, .inr rfl⟩
theorem res3C : Statement .res3C := ⟨_, _, rfl, .inr rfl⟩
theorem res3D : Statement .res3D := ⟨_, _, rfl, .inr rfl⟩
theorem res3E : Statement .res3E := ⟨_, _, rfl, .inr rfl⟩
theorem res3H : Statement .res3H := ⟨_, _, rfl, .inr rfl⟩
theorem res3L : Statement .res3L := ⟨_, _, rfl, .inr rfl⟩
theorem res3AtHl : Statement .res3AtHl := ⟨_, _, rfl, .inr rfl⟩
theorem res3A : Statement .res3A := ⟨_, _, rfl, .inr rfl⟩
theorem res4B : Statement .res4B := ⟨_, _, rfl, .inr rfl⟩
theorem res4C : Statement .res4C := ⟨_, _, rfl, .inr rfl⟩
theorem res4D : Statement .res4D := ⟨_, _, rfl, .inr rfl⟩
theorem res4E : Statement .res4E := ⟨_, _, rfl, .inr rfl⟩
theorem res4H : Statement .res4H := ⟨_, _, rfl, .inr rfl⟩
theorem res4L : Statement .res4L := ⟨_, _, rfl, .inr rfl⟩
theorem res4AtHl : Statement .res4AtHl := ⟨_, _, rfl, .inr rfl⟩
theorem res4A : Statement .res4A := ⟨_, _, rfl, .inr rfl⟩
theorem res5B : Statement .res5B := ⟨_, _, rfl, .inr rfl⟩
theorem res5C : Statement .res5C := ⟨_, _, rfl, .inr rfl⟩
theorem res5D : Statement .res5D := ⟨_, _, rfl, .inr rfl⟩
theorem res5E : Statement .res5E := ⟨_, _, rfl, .inr rfl⟩
theorem res5H : Statement .res5H := ⟨_, _, rfl, .inr rfl⟩
theorem res5L : Statement .res5L := ⟨_, _, rfl, .inr rfl⟩
theorem res5AtHl : Statement .res5AtHl := ⟨_, _, rfl, .inr rfl⟩
theorem res5A : Statement .res5A := ⟨_, _, rfl, .inr rfl⟩
theorem res6B : Statement .res6B := ⟨_, _, rfl, .inr rfl⟩
theorem res6C : Statement .res6C := ⟨_, _, rfl, .inr rfl⟩
theorem res6D : Statement .res6D := ⟨_, _, rfl, .inr rfl⟩
theorem res6E : Statement .res6E := ⟨_, _, rfl, .inr rfl⟩
theorem res6H : Statement .res6H := ⟨_, _, rfl, .inr rfl⟩
theorem res6L : Statement .res6L := ⟨_, _, rfl, .inr rfl⟩
theorem res6AtHl : Statement .res6AtHl := ⟨_, _, rfl, .inr rfl⟩
theorem res6A : Statement .res6A := ⟨_, _, rfl, .inr rfl⟩
theorem res7B : Statement .res7B := ⟨_, _, rfl, .inr rfl⟩
theorem res7C : Statement .res7C := ⟨_, _, rfl, .inr rfl⟩
theorem res7D : Statement .res7D := ⟨_, _, rfl, .inr rfl⟩
theorem res7E : Statement .res7E := ⟨_, _, rfl, .inr rfl⟩
theorem res7H : Statement .res7H := ⟨_, _, rfl, .inr rfl⟩
theorem res7L : Statement .res7L := ⟨_, _, rfl, .inr rfl⟩
theorem res7AtHl : Statement .res7AtHl := ⟨_, _, rfl, .inr rfl⟩
theorem res7A : Statement .res7A := ⟨_, _, rfl, .inr rfl⟩
theorem set0B : Statement .set0B := ⟨_, _, rfl, .inr rfl⟩
theorem set0C : Statement .set0C := ⟨_, _, rfl, .inr rfl⟩
theorem set0D : Statement .set0D := ⟨_, _, rfl, .inr rfl⟩
theorem set0E : Statement .set0E := ⟨_, _, rfl, .inr rfl⟩
theorem set0H : Statement .set0H := ⟨_, _, rfl, .inr rfl⟩
theorem set0L : Statement .set0L := ⟨_, _, rfl, .inr rfl⟩
theorem set0AtHl : Statement .set0AtHl := ⟨_, _, rfl, .inr rfl⟩
theorem set0A : Statement .set0A := ⟨_, _, rfl, .inr rfl⟩
theorem set1B : Statement .set1B := ⟨_, _, rfl, .inr rfl⟩
theorem set1C : Statement .set1C := ⟨_, _, rfl, .inr rfl⟩
theorem set1D : Statement .set1D := ⟨_, _, rfl, .inr rfl⟩
theorem set1E : Statement .set1E := ⟨_, _, rfl, .inr rfl⟩
theorem set1H : Statement .set1H := ⟨_, _, rfl, .inr rfl⟩
theorem set1L : Statement .set1L := ⟨_, _, rfl, .inr rfl⟩
theorem set1AtHl : Statement .set1AtHl := ⟨_, _, rfl, .inr rfl⟩
theorem set1A : Statement .set1A := ⟨_, _, rfl, .inr rfl⟩
theorem set2B : Statement .set2B := ⟨_, _, rfl, .inr rfl⟩
theorem set2C : Statement .set2C := ⟨_, _, rfl, .inr rfl⟩
theorem set2D : Statement .set2D := ⟨_, _, rfl, .inr rfl⟩
theorem set2E : Statement .set2E := ⟨_, _, rfl, .inr rfl⟩
theorem set2H : Statement .set2H := ⟨_, _, rfl, .inr rfl⟩
theorem set2L : Statement .set2L := ⟨_, _, rfl, .inr rfl⟩
theorem set2AtHl : Statement .set2AtHl := ⟨_, _, rfl, .inr rfl⟩
theorem set2A : Statement .set2A := ⟨_, _, rfl, .inr rfl⟩
theorem set3B : Statement .set3B := ⟨_, _, rfl, .inr rfl⟩
theorem set3C : Statement .set3C := ⟨_, _, rfl, .inr rfl⟩
theorem set3D : Statement .set3D := ⟨_, _, rfl, .inr rfl⟩
theorem set3E : Statement .set3E := ⟨_, _, rfl, .inr rfl⟩
theorem set3H : Statement .set3H := ⟨_, _, rfl, .inr rfl⟩
theorem set3L : Statement .set3L := ⟨_, _, rfl, .inr rfl⟩
theorem set3AtHl : Statement .set3AtHl := ⟨_, _, rfl, .inr rfl⟩
theorem set3A : Statement .set3A := ⟨_, _, rfl, .inr rfl⟩
theorem set4B : Statement .set4B := ⟨_, _, rfl, .inr rfl⟩
theorem set4C : Statement .set4C := ⟨_, _, rfl, .inr rfl⟩
theorem set4D : Statement .set4D := ⟨_, _, rfl, .inr rfl⟩
theorem set4E : Statement .set4E := ⟨_, _, rfl, .inr rfl⟩
theorem set4H : Statement .set4H := ⟨_, _, rfl, .inr rfl⟩
theorem set4L : Statement .set4L := ⟨_, _, rfl, .inr rfl⟩
theorem set4AtHl : Statement .set4AtHl := ⟨_, _, rfl, .inr rfl⟩
theorem set4A : Statement .set4A := ⟨_, _, rfl, .inr rfl⟩
theorem set5B : Statement .set5B := ⟨_, _, rfl, .inr rfl⟩
theorem set5C : Statement .set5C := ⟨_, _, rfl, .inr rfl⟩
theorem set5D : Statement .set5D := ⟨_, _, rfl, .inr rfl⟩
theorem set5E : Statement .set5E := ⟨_, _, rfl, .inr rfl⟩
theorem set5H : Statement .set5H := ⟨_, _, rfl, .inr rfl⟩
theorem set5L : Statement .set5L := ⟨_, _, rfl, .inr rfl⟩
theorem set5AtHl : Statement .set5AtHl := ⟨_, _, rfl, .inr rfl⟩
theorem set5A : Statement .set5A := ⟨_, _, rfl, .inr rfl⟩
theorem set6B : Statement .set6B := ⟨_, _, rfl, .inr rfl⟩
theorem set6C : Statement .set6C := ⟨_, _, rfl, .inr rfl⟩
theorem set6D : Statement .set6D := ⟨_, _, rfl, .inr rfl⟩
theorem set6E : Statement .set6E := ⟨_, _, rfl, .inr rfl⟩
theorem set6H : Statement .set6H := ⟨_, _, rfl, .inr rfl⟩
theorem set6L : Statement .set6L := ⟨_, _, rfl, .inr rfl⟩
theorem set6AtHl : Statement .set6AtHl := ⟨_, _, rfl, .inr rfl⟩
theorem set6A : Statement .set6A := ⟨_, _, rfl, .inr rfl⟩
theorem set7B : Statement .set7B := ⟨_, _, rfl, .inr rfl⟩
theorem set7C : Statement .set7C := ⟨_, _, rfl, .inr rfl⟩
theorem set7D : Statement .set7D := ⟨_, _, rfl, .inr rfl⟩
theorem set7E : Statement .set7E := ⟨_, _, rfl, .inr rfl⟩
theorem set7H : Statement .set7H := ⟨_, _, rfl, .inr rfl⟩
theorem set7L : Statement .set7L := ⟨_, _, rfl, .inr rfl⟩
theorem set7AtHl : Statement .set7AtHl := ⟨_, _, rfl, .inr rfl⟩
theorem set7A : Statement .set7A := ⟨_, _, rfl, .inr rfl⟩

end Sys2Proof.Laws.FetchLength
end

