-- ==== Sys2Proof/Tests/Slice0.lean ====
section
/-! SUPPORT. Tests of single operations and single steps, each with its expected result from the vectors of
spec/95_test_vectors.md (named in the docstring) or from a rule, and the witnesses of the statements' hypotheses. -/

namespace Sys2Proof.Tests

open Sys2Proof.Machine Sys2Proof.Claims

/-- A view of the next state; none at a stop. -/
def seen {α : Type} (o : Result) (f : State → α) : Option α :=
  match o with
  | .next s => some (f s)
  | _ => none

/-- The fault an outcome ends in. -/
def faultOf (o : Result) : Option Fault :=
  match o with
  | .fault f => some f
  | _ => none

/-- The refusal an outcome ends in. -/
def refusalOf (o : Result) : Option Refusal :=
  match o with
  | .refused r => some r
  | _ => none

/-- The reset state with other register pairs. -/
def regs (af bc de hl sp pc : Word) : State :=
  { State.reset with af := af, bc := bc, de := de, hl := hl, sp := sp, pc := pc }

/-- The reset state with the accumulator pair `af` and B = `b`. -/
def acc (af : Word) (b : Byte) : State := { State.reset with af := af, bc := b ++ 0x00#8 }

/-- `s` with the listed cells stored. -/
def cells (l : List (Nat × Byte)) (s : State) : State := l.foldl (fun t c => t.poke c.1 c.2) s

/-- The reset state with `bytes` at 0x0100 on. -/
def placed (bytes : List Byte) : State := placeBytes 0x0100 bytes State.reset

/-- The reset state with a one-bank image. -/
def oneBank : State := { State.reset with romBanks := 1 }

/-- A one-bank image under `ROM_WRITE_POLICY = store`. -/
def storing : State := { oneBank with params := { romWritePolicy := .store } }

/-! ## Syntax, decoding, encoding -/

/-- R336: the bare prefix is not an instruction of the stream. -/
theorem test_prefix_ill_formed : Instr.wellFormed (.prefixCb 0x37) = false := by decide

/-- R336: the row it selects is one. -/
theorem test_cb_row_well_formed : Instr.wellFormed .swapA = true := by decide

/-- R132: the 49 register loads. -/
theorem test_decode_copies : ∀ row ∈ copyRows, decode [row.1] = .ok row.2.1 := by decide

/-- R132: the loads and stores through HL. -/
theorem test_decode_at_hl : (∀ row ∈ loadAtHlRows, decode [row.1] = .ok row.2.1) ∧
    ∀ row ∈ storeAtHlRows, decode [row.1] = .ok row.2.1 := by decide

/-- R129, R132: byte immediates, and word immediates low byte first. -/
theorem test_decode_immediates : (∀ row ∈ loadByteRows, decode [row.1, 0x9F] = .ok (row.2.1 0x9F)) ∧
    ∀ row ∈ loadWordRows, decode [row.1, 0x34, 0x12] = .ok (row.2.1 0x1234) := by decide

/-- R132: the loads and stores of A and SP, one word each. -/
theorem test_decode_loads_of_a :
    [decode [0x02], decode [0x12], decode [0x22], decode [0x32], decode [0x0A], decode [0x1A], decode [0x2A],
      decode [0x3A], decode [0x36, 0x42], decode [0x08, 0x00, 0xC1], decode [0xE0, 0x0F], decode [0xF0, 0x44],
      decode [0xE2], decode [0xF2], decode [0xEA, 0x46, 0xFF], decode [0xFA, 0x00, 0xC0], decode [0xF9],
      decode [0xF8, 0x02]] =
    [.ok .ldAtBcA, .ok .ldAtDeA, .ok .ldAtHlIncA, .ok .ldAtHlDecA, .ok .ldAAtBc, .ok .ldAAtDe, .ok .ldAAtHlInc,
      .ok .ldAAtHlDec, .ok (.ldAtHlD8 0x42), .ok (.ldAtA16Sp 0xC100), .ok (.ldhAtA8A 0x0F), .ok (.ldhAAtA8 0x44),
      .ok .ldAtCA, .ok .ldAAtC, .ok (.ldAtA16A 0xFF46), .ok (.ldAAtA16 0xC000), .ok .ldSpHl,
      .ok (.ldHlSpE8 0x02)] := by decide

/-- R132: PUSH and POP. -/
theorem test_decode_stack : (∀ row ∈ pushRows, decode [row.1] = .ok row.2.1) ∧
    (∀ row ∈ popRows, decode [row.1] = .ok row.2.1) ∧ decode [0xF1] = .ok .popAf := by decide

/-- R132: the 8-bit operations on a register. -/
theorem test_decode_alu :
    (∀ row ∈ addRows, decode [row.1] = .ok row.2.1) ∧ (∀ row ∈ adcRows, decode [row.1] = .ok row.2.1) ∧
    (∀ row ∈ subRows, decode [row.1] = .ok row.2.1) ∧ (∀ row ∈ sbcRows, decode [row.1] = .ok row.2.1) ∧
    (∀ row ∈ andRows, decode [row.1] = .ok row.2.1) ∧ (∀ row ∈ xorRows, decode [row.1] = .ok row.2.1) ∧
    (∀ row ∈ orRows, decode [row.1] = .ok row.2.1) ∧ ∀ row ∈ cpRows, decode [row.1] = .ok row.2.1 := by decide

/-- R132: the 8-bit operations on (HL) and on an immediate. -/
theorem test_decode_alu_memory_immediate :
    [decode [0x86], decode [0x8E], decode [0x96], decode [0x9E], decode [0xA6], decode [0xAE], decode [0xB6],
      decode [0xBE], decode [0xC6, 7], decode [0xCE, 7], decode [0xD6, 7], decode [0xDE, 7], decode [0xE6, 7],
      decode [0xEE, 7], decode [0xF6, 7], decode [0xFE, 7]] =
    [.ok .addAAtHl, .ok .adcAAtHl, .ok .subAtHl, .ok .sbcAAtHl, .ok .andAtHl, .ok .xorAtHl, .ok .orAtHl,
      .ok .cpAtHl, .ok (.addAD8 7), .ok (.adcAD8 7), .ok (.subD8 7), .ok (.sbcAD8 7), .ok (.andD8 7),
      .ok (.xorD8 7), .ok (.orD8 7), .ok (.cpD8 7)] := by decide

/-- R132: increments, decrements, 16-bit operations, and the operations on A alone. -/
theorem test_decode_counts_and_pairs :
    (∀ row ∈ incRows, decode [row.1] = .ok row.2.1) ∧ (∀ row ∈ decRows, decode [row.1] = .ok row.2.1) ∧
    (∀ row ∈ incPairRows, decode [row.1] = .ok row.2.1) ∧ (∀ row ∈ decPairRows, decode [row.1] = .ok row.2.1) ∧
    (∀ row ∈ addHlRows, decode [row.1] = .ok row.2.1) ∧
    [decode [0x34], decode [0x35], decode [0xE8, 0x08], decode [0x07], decode [0x0F], decode [0x17], decode [0x1F],
      decode [0x27], decode [0x2F], decode [0x37], decode [0x3F]] =
    [.ok .incAtHl, .ok .decAtHl, .ok (.addSpE8 0x08), .ok .rlca, .ok .rrca, .ok .rla, .ok .rra,
      .ok .daa, .ok .cpl, .ok .scf, .ok .ccf] := by decide

/-- R133: the rotates and shifts of the CB map. -/
theorem test_decode_rotates :
    (∀ row ∈ rlcRows, decode [0xCB, row.1] = .ok row.2.1) ∧ (∀ row ∈ rrcRows, decode [0xCB, row.1] = .ok row.2.1) ∧
    (∀ row ∈ rlRows, decode [0xCB, row.1] = .ok row.2.1) ∧ (∀ row ∈ rrRows, decode [0xCB, row.1] = .ok row.2.1) ∧
    (∀ row ∈ slaRows, decode [0xCB, row.1] = .ok row.2.1) ∧ (∀ row ∈ sraRows, decode [0xCB, row.1] = .ok row.2.1) ∧
    (∀ row ∈ swapRows, decode [0xCB, row.1] = .ok row.2.1) ∧
    (∀ row ∈ srlRows, decode [0xCB, row.1] = .ok row.2.1) ∧
    [decode [0xCB, 0x06], decode [0xCB, 0x0E], decode [0xCB, 0x16], decode [0xCB, 0x1E], decode [0xCB, 0x26],
      decode [0xCB, 0x2E], decode [0xCB, 0x36], decode [0xCB, 0x3E]] =
    [.ok .rlcAtHl, .ok .rrcAtHl, .ok .rlAtHl, .ok .rrAtHl, .ok .slaAtHl, .ok .sraAtHl, .ok .swapAtHl,
      .ok .srlAtHl] := by decide

/-- R133: BIT. -/
theorem test_decode_bit : (∀ row ∈ bitRows, decode [0xCB, row.1] = .ok row.2.1) ∧
    ∀ row ∈ bitAtHlRows, decode [0xCB, row.1] = .ok row.2.1 := by decide

/-- R133: RES. -/
theorem test_decode_res : (∀ row ∈ resRows, decode [0xCB, row.1] = .ok row.2.1) ∧
    ∀ row ∈ resAtHlRows, decode [0xCB, row.1] = .ok row.2.1 := by decide

/-- R133: SET. -/
theorem test_decode_set : (∀ row ∈ setRows, decode [0xCB, row.1] = .ok row.2.1) ∧
    ∀ row ∈ setAtHlRows, decode [0xCB, row.1] = .ok row.2.1 := by decide

/-- R132: jumps, calls, returns. -/
theorem test_decode_control :
    (∀ row ∈ jpIfRows, decode [row.1, 0x00, 0x02] = .ok (row.2.1 0x0200)) ∧
    (∀ row ∈ jrIfRows, decode [row.1, 0xFD] = .ok (row.2.1 0xFD)) ∧
    (∀ row ∈ callIfRows, decode [row.1, 0x00, 0x30] = .ok (row.2.1 0x3000)) ∧
    (∀ row ∈ retIfRows, decode [row.1] = .ok row.2.1) ∧ (∀ row ∈ rstRows, decode [row.1] = .ok row.2.1) ∧
    [decode [0xC3, 0x00, 0x02], decode [0xE9], decode [0x18, 0xFD], decode [0xCD, 0x78, 0x56], decode [0xC9],
      decode [0xD9]] =
    [.ok (.jpA16 0x0200), .ok .jpHl, .ok (.jrE8 0xFD), .ok (.callA16 0x5678), .ok .ret, .ok .reti] := by decide

/-- R132, R135, R137: system instructions and the illegal bytes; STOP is read from its opcode byte alone. -/
theorem test_decode_system :
    (∀ row ∈ illegalRows, decode [row.1] = .ok row.2) ∧
    [decode [0x00], decode [0x10], decode [0x76], decode [0xF3], decode [0xFB]] =
    [.ok .nop, .ok .stop, .ok .halt, .ok .di, .ok .ei] := by decide

/-- The decoder's rejections: no byte, a missing operand byte. -/
theorem test_decode_truncated :
    [decode [], decode [0x21, 0x34], decode [0xCB]] =
    [.error .truncated, .error .truncated, .error .truncated] := by decide

/-! ## Loads (vectors L) -/

/-- L-1. -/
theorem test_ld_c_b : seen (exec .ldCB (regs 0x01B0 0x1200 0 0 0 0)) (fun s => (s.bc, s.af)) =
    some (0x1212, 0x01B0) := by decide

/-- L-2. -/
theorem test_ld_d_d8 : seen (step (cells [(0x0150, 0x16), (0x0151, 0x9F)] (regs 0 0 0 0 0 0x0150)))
    (fun s => (s.reg8 .d, s.pc, s.stall)) = some (0x9F, 0x0152, 7) := by decide

/-- L-3. -/
theorem test_ld_at_hl_d8 : seen (exec (.ldAtHlD8 0x42) (regs 0 0 0 0xC010 0 0)) (fun s => s.peek 0xC010) =
    some 0x42 := by decide

/-- L-5: IE is written and HL wraps. -/
theorem test_ld_hl_inc_wraps : seen (exec .ldAtHlIncA (regs 0x0500 0 0 0xFFFF 0 0))
    (fun s => (s.peek 0xFFFF, s.hl)) = some (0x05, 0x0000) := by decide

/-- L-6. -/
theorem test_ld_hl_dec : seen (exec .ldAtHlDecA (cells [(0x9FFF, 0x77)] (regs 0 0 0 0x9FFF 0 0)))
    (fun s => (s.peek 0x9FFF, s.hl)) = some (0x00, 0x9FFE) := by decide

/-- L-7. -/
theorem test_ld_a_a16 : seen (exec (.ldAAtA16 0xC000) (cells [(0xC000, 0x7E)] State.reset)) (fun s => s.af) =
    some 0x7EB0 := by decide

/-- L-8: a store to 0xFF46 starts a DMA and stores nothing. -/
theorem test_ld_dma : seen (exec (.ldAtA16A 0xFF46) (regs 0xC000 0 0 0 0 0))
    (fun s => (s.dmaActive, s.dmaCursor, s.peek 0xFF46)) = some (true, 0xC000, 0x00) := by decide

/-- L-11: JOYP keeps its low nibble. -/
theorem test_ld_joyp : seen (exec .ldAtCA (cells [(0xFF00, 0x0F)] (regs 0x2000 0x0000 0 0 0 0)))
    (fun s => s.peek 0xFF00) = some 0x2F := by decide

/-- L-12. -/
theorem test_ld_a16_sp : seen (exec (.ldAtA16Sp 0xC100) (regs 0 0 0 0 0xFFF8 0))
    (fun s => (s.peek 0xC100, s.peek 0xC101)) = some (0xF8, 0xFF) := by decide

/-- L-14. -/
theorem test_ld_hl_sp_carries : seen (exec (.ldHlSpE8 0x01) (regs 0 0 0 0 0x00FF 0)) (fun s => (s.hl, s.af)) =
    some (0x0100, 0x0030) := by decide

/-- L-15. -/
theorem test_ld_hl_sp_negative : seen (exec (.ldHlSpE8 0xFF) (regs 0x00F0 0 0 0 0x0000 0))
    (fun s => (s.hl, s.af)) = some (0xFFFF, 0x0000) := by decide

/-- L-17. -/
theorem test_push_bc : seen (exec .pushBc (regs 0 0x1234 0 0 0xFFFE 0))
    (fun s => (s.peek 0xFFFD, s.peek 0xFFFC, s.sp)) = some (0x12, 0x34, 0xFFFC) := by decide

/-- L-18: the low nibble of F is dropped. -/
theorem test_pop_af : seen (exec .popAf (cells [(0xDFF0, 0xFF), (0xDFF1, 0x12)] (regs 0 0 0 0 0xDFF0 0)))
    (fun s => (s.af, s.sp)) = some (0x12F0, 0xDFF2) := by decide

/-- L-19: the pop at the top of the address space. -/
theorem test_pop_bc_wraps : seen (exec .popBc (cells [(0xFFFE, 0x34), (0xFFFF, 0x12)] (regs 0 0 0 0 0xFFFE 0)))
    (fun s => (s.bc, s.sp)) = some (0x1234, 0x0000) := by decide

/-- L-20: a write through the echo region. -/
theorem test_echo_write : seen (exec .ldAtDeA (regs 0x9900 0 0xE000 0 0 0)) (fun s => s.peek 0xC000) =
    some 0x99 := by decide

/-- R202: H is overwritten only after the read at the old HL. -/
theorem test_ld_h_at_hl : seen (exec .ldHAtHl (cells [(0xC010, 0xD1)] (regs 0 0 0 0xC010 0 0))) (fun s => s.hl) =
    some 0xD110 := by decide

/-! ## Arithmetic and logic (section 3 and 4 of the vectors) -/

/-- S1, first row. -/
theorem test_add_wraps : seen (exec .addAB (acc 0x3A00 0xC6)) (fun s => s.af) = some 0x00B0 := by decide

/-- S1, fifth row. -/
theorem test_add_half : seen (exec (.addAD8 0x71) (acc 0x8F00 0)) (fun s => s.af) = some 0x00B0 := by decide

/-- S13. -/
theorem test_adc_carry_in : seen (exec .adcAB (acc 0x0010 0xFF)) (fun s => s.af) = some 0x00B0 := by decide

/-- ADC with half carry from the carry in. -/
theorem test_adc_half : seen (exec (.adcAD8 0x00) (acc 0x0F10 0)) (fun s => s.af) = some 0x1020 := by decide

/-- S2, fourth row. -/
theorem test_sub_borrow : seen (exec .subB (acc 0x3B00 0x4F)) (fun s => s.af) = some 0xEC70 := by decide

/-- SBC of 0x80 and 0x7F with a carry in. -/
theorem test_sbc_zero : seen (exec .sbcAB (acc 0x8010 0x7F)) (fun s => s.af) = some 0x00E0 := by decide

/-- SBC A,A with a carry in. -/
theorem test_sbc_same : seen (exec .sbcAA (acc 0x0110 0)) (fun s => s.af) = some 0xFF70 := by decide

/-- AND with F in = 0x10. -/
theorem test_and : seen (exec .andB (acc 0x5A10 0xA5)) (fun s => s.af) = some 0x00A0 := by decide

/-- XOR 0x0F. -/
theorem test_xor : seen (exec (.xorD8 0x0F) (acc 0xFF10 0)) (fun s => s.af) = some 0xF000 := by decide

/-- OR (HL). -/
theorem test_or_at_hl : seen (exec .orAtHl (cells [(0xC000, 0x0F)] (regs 0x5A10 0 0 0xC000 0 0))) (fun s => s.af) =
    some 0x5F00 := by decide

/-- The CP of S2: A and B are kept. -/
theorem test_cp : seen (exec .cpB (acc 0x3C00 0x2F)) (fun s => (s.af, s.bc)) = some (0x3C60, 0x2F00) := by decide

/-- CP (HL) at 0x4000 with a one-bank image. -/
theorem test_cp_fault : faultOf (exec .cpAtHl { oneBank with hl := 0x4000 }) =
    some (.romIndexOutOfRange 0x4000 0x4000 ⟨0x01B0, 0x0013, 0x00D8, 0x4000, 0xFFFE, 0x0100⟩) := by decide

/-- INC of 0xFF keeps C. -/
theorem test_inc_wraps : seen (exec .incA (acc 0xFF10 0)) (fun s => s.af) = some 0x00B0 := by decide

/-- INC (HL). -/
theorem test_inc_at_hl : seen (exec .incAtHl (cells [(0xC000, 0x50)] (regs 0x0010 0 0 0xC000 0 0)))
    (fun s => (s.peek 0xC000, s.af)) = some (0x51, 0x0010) := by decide

/-- DEC of 0x00. -/
theorem test_dec_wraps : seen (exec .decB (acc 0x0010 0x00)) (fun s => (s.bc, s.af)) = some (0xFF00, 0x0070) := by
  decide

/-- DEC (HL). -/
theorem test_dec_at_hl : seen (exec .decAtHl (regs 0x0010 0 0 0xC000 0 0)) (fun s => (s.peek 0xC000, s.af)) =
    some (0xFF, 0x0070) := by decide

/-- DAA after additions: S4 and the rows 0x9A, 0x00 with H and C. -/
theorem test_daa_add : [seen (exec .daa (acc 0x3C00 0)) (fun s => s.af), seen (exec .daa (acc 0x9A00 0)) (fun s => s.af),
    seen (exec .daa (acc 0x0030 0)) (fun s => s.af)] = [some 0x4200, some 0x0090, some 0x6610] := by decide

/-- DAA after subtractions: the rows 0x0F, 0xFA, 0x34, 0x00 with N. -/
theorem test_daa_sub : [seen (exec .daa (acc 0x0F60 0)) (fun s => s.af), seen (exec .daa (acc 0xFA50 0)) (fun s => s.af),
    seen (exec .daa (acc 0x3470 0)) (fun s => s.af), seen (exec .daa (acc 0x0040 0)) (fun s => s.af)] =
    [some 0x0940, some 0x9A50, some 0xCE50, some 0x00C0] := by decide

/-- CPL, SCF and CCF. -/
theorem test_cpl_scf_ccf : [seen (exec .cpl (acc 0x3590 0)) (fun s => s.af),
    seen (exec .scf (acc 0x00E0 0)) (fun s => s.af), seen (exec .ccf (acc 0x0070 0)) (fun s => s.af),
    seen (exec .ccf (acc 0x0080 0)) (fun s => s.af)] =
    [some 0xCAF0, some 0x0090, some 0x0000, some 0x0090] := by decide

/-- ADD HL,rr: the half carry is bit 11's. -/
theorem test_add_hl : [seen (exec .addHlBc (regs 0x0080 0x0605 0 0x8A23 0 0)) (fun s => (s.hl, s.af)),
    seen (exec .addHlHl (regs 0x0080 0 0 0x8000 0 0)) (fun s => (s.hl, s.af)),
    seen (exec .addHlSp (regs 0x0080 0 0 0x00FF 0x0001 0)) (fun s => (s.hl, s.af))] =
    [some (0x9028, 0x00A0), some (0x0000, 0x0090), some (0x0100, 0x0080)] := by decide

/-- ADD SP,e8. -/
theorem test_add_sp : [seen (exec (.addSpE8 0x08) (regs 0x00F0 0 0 0 0xFFF8 0)) (fun s => (s.sp, s.af)),
    seen (exec (.addSpE8 0x80) (regs 0x00F0 0 0 0 0x00FF 0)) (fun s => (s.sp, s.af)),
    seen (exec (.addSpE8 0xF0) (regs 0x00F0 0 0 0 0xDFF0 0)) (fun s => (s.sp, s.af))] =
    [some (0x0000, 0x0030), some (0x007F, 0x0010), some (0xDFE0, 0x0010)] := by decide

/-- INC rr and DEC rr. -/
theorem test_inc_dec_pair : seen (exec .incSp (regs 0 0 0 0 0xFFFF 0)) (fun s => s.sp) = some 0x0000 ∧
    seen (exec .decHl (regs 0x0080 0 0 0x0000 0 0)) (fun s => (s.hl, s.af)) = some (0xFFFF, 0x0080) := by decide

/-! ## Rotates, shifts, bits (section 5 of the vectors) -/

/-- The accumulator rotates. -/
theorem test_rotate_a : [seen (exec .rlca (acc 0x8500 0)) (fun s => s.af), seen (exec .rrca (acc 0x3B00 0)) (fun s => s.af),
    seen (exec .rla (acc 0x9510 0)) (fun s => s.af), seen (exec .rra (acc 0x8100 0)) (fun s => s.af),
    seen (exec .rla (acc 0x8000 0)) (fun s => s.af)] =
    [some 0x0B10, some 0x9D10, some 0x2B10, some 0x4010, some 0x0010] := by decide

/-- The CB rotates on a register. -/
theorem test_rotate_cb : [seen (exec .rlcB (acc 0x0000 0x85)) (fun s => (s.bc, s.af)),
    seen (exec .rrcB (acc 0x0000 0x01)) (fun s => (s.bc, s.af)),
    seen (exec .rlB (acc 0x0010 0x00)) (fun s => (s.bc, s.af)),
    seen (exec .rrB (acc 0x0000 0x01)) (fun s => (s.bc, s.af))] =
    [some (0x0B00, 0x0010), some (0x8000, 0x0010), some (0x0100, 0x0000), some (0x0000, 0x0090)] := by decide

/-- The CB shifts on a register. -/
theorem test_shift_cb : [seen (exec .slaB (acc 0x0000 0x80)) (fun s => (s.bc, s.af)),
    seen (exec .sraB (acc 0x0010 0x8A)) (fun s => (s.bc, s.af)),
    seen (exec .swapB (acc 0x0010 0xF0)) (fun s => (s.bc, s.af)),
    seen (exec .srlB (acc 0x0000 0xFF)) (fun s => (s.bc, s.af))] =
    [some (0x0000, 0x0090), some (0xC500, 0x0000), some (0x0F00, 0x0000), some (0x7F00, 0x0010)] := by decide

/-- RLC (HL). -/
theorem test_rlc_at_hl : seen (exec .rlcAtHl (cells [(0xC000, 0x81)] (regs 0 0 0 0xC000 0 0)))
    (fun s => (s.peek 0xC000, s.af)) = some (0x03, 0x0010) := by decide

/-- BIT. -/
theorem test_bit : [seen (exec .bit7H (regs 0x0010 0 0 0x8000 0 0)) (fun s => s.af),
    seen (exec .bit7A (acc 0x7F00 0)) (fun s => s.af), seen (exec .bit0A (acc 0x0150 0)) (fun s => s.af)] =
    [some 0x0030, some 0x7FA0, some 0x0130] := by decide

/-- RES and SET. -/
theorem test_res_set : seen (exec .res7A (acc 0x8050 0)) (fun s => s.af) = some 0x0050 ∧
    seen (exec .set3AtHl (regs 0x0050 0 0 0xC000 0 0)) (fun s => (s.peek 0xC000, s.af)) = some (0x08, 0x0050) := by
  decide

/-- SET 0,(HL) at 0xFF46 starts a DMA. -/
theorem test_set_dma : seen (exec .set0AtHl (cells [(0xFF46, 0x80)] (regs 0 0 0 0xFF46 0 0)))
    (fun s => (s.dmaActive, s.dmaCursor, s.peek 0xFF46)) = some (true, 0x8100, 0x80) := by decide

/-! ## Control transfer (vectors C) -/

/-- C-2 and C-3, with their two costs. -/
theorem test_jp_z : [seen (step (cells [(0x0150, 0xCA), (0x0152, 0x02)] (regs 0x0080 0 0 0 0 0x0150)))
      (fun s => (s.pc, s.stall)),
    seen (step (cells [(0x0150, 0xCA), (0x0152, 0x02)] (regs 0x0000 0 0 0 0 0x0150))) (fun s => (s.pc, s.stall))] =
    [some (0x0200, 15), some (0x0153, 11)] := by decide

/-- C-5 to C-8. -/
theorem test_jr : [seen (exec (.jrE8 0xFD) (regs 0 0 0 0 0 0x0482)) (fun s => s.pc),
    seen (exec (.jrE8 0x7F) (regs 0 0 0 0 0 0x0482)) (fun s => s.pc),
    seen (exec (.jrE8 0x80) (regs 0 0 0 0 0 0x0482)) (fun s => s.pc)] =
    [some 0x047F, some 0x0501, some 0x0402] := by decide

/-- C-12. -/
theorem test_call : seen (step (cells [(0x1234, 0xCD), (0x1235, 0x78), (0x1236, 0x56)] (regs 0 0 0 0 0xFFFE 0x1234)))
    (fun s => (s.pc, s.sp, s.peek 0xFFFD, s.peek 0xFFFC, s.stall)) = some (0x5678, 0xFFFC, 0x12, 0x37, 23) := by decide

/-- C-14. -/
theorem test_call_not_taken : seen (step (cells [(0x0200, 0xDC), (0x0202, 0x30)] (regs 0 0 0 0 0xFFFE 0x0200)))
    (fun s => (s.pc, s.sp, s.peek 0xFFFD, s.stall)) = some (0x0203, 0xFFFE, 0x00, 11) := by decide

/-- C-16 and C-17. -/
theorem test_ret_nz : [seen (exec .retNz (cells [(0xFFFC, 0x37), (0xFFFD, 0x12)] (regs 0x0000 0 0 0 0xFFFC 0x0301)))
      (fun s => (s.pc, s.sp)),
    seen (exec .retNz (cells [(0xFFFC, 0x37), (0xFFFD, 0x12)] (regs 0x0080 0 0 0 0xFFFC 0x0301)))
      (fun s => (s.pc, s.sp))] = [some (0x1237, 0xFFFE), some (0x0301, 0xFFFC)] := by decide

/-- C-18. -/
theorem test_rst : seen (exec .rst28 (regs 0 0 0 0 0xFFFE 0x0301))
    (fun s => (s.pc, s.sp, s.peek 0xFFFD, s.peek 0xFFFC)) = some (0x0028, 0xFFFC, 0x03, 0x01) := by decide

/-- C-20. -/
theorem test_reti : seen (exec .reti (cells [(0xFFFC, 0x37), (0xFFFD, 0x12)] (regs 0 0 0 0 0xFFFC 0)))
    (fun s => (s.pc, s.sp, s.ime)) = some (0x1237, 0xFFFE, true) := by decide

/-- C-22: an operand byte in an absent bank. -/
theorem test_operand_fault : faultOf (step { oneBank with pc := 0x3FFF, mem := [(0x3FFF, 0xC3)] }) =
    some (.romIndexOutOfRange 0x4000 0x4000 ⟨0x01B0, 0x0013, 0x00D8, 0x014D, 0xFFFE, 0x4000⟩) := by decide

/-! ## System and the CPU tick (vectors Y and I) -/

/-- Y-1. -/
theorem test_nop : seen (step State.reset) (fun s => (s.pc, s.stall, s.executed)) = some (0x0101, 3, true) := by decide

/-- Y-2. -/
theorem test_halt : seen (step (placed [0x76])) (fun s => (s.halted, s.stall, s.pc)) = some (true, 3, 0x0101) := by
  decide

/-- Y-4. -/
theorem test_stop : refusalOf (step (placed [0x10])) = some (.stopNotModelled 0x0100) := by decide

/-- Y-5. -/
theorem test_di_ei : seen (exec .di { State.reset with ime := true }) (fun s => s.ime) = some false ∧
    seen (exec .ei State.reset) (fun s => s.ime) = some true := by decide

/-- Y-7 to Y-9: the prefix has no cost of its own. -/
theorem test_prefix_steps : [seen (step (placed [0xCB, 0x37])) (fun s => (s.af, s.pc, s.stall)),
    seen (step (placed [0xCB, 0x46])) (fun s => (s.af, s.pc, s.stall))] =
    [some (0x1000, 0x0102, 7), some (0x01B0, 0x0102, 11)] := by decide

/-- Y-10. -/
theorem test_illegal : seen (step (placed [0xDD])) (fun s => (s.log, s.pc, s.stall)) =
    some ([(0xDD, 0x0100)], 0x0101, 3) := by decide

/-- S9: the handler's first instruction runs in the dispatch tick. -/
theorem test_interrupt : seen (cpuTick (cells [(0x0040, 0x3C), (0xFF0F, 0x05), (0xFFFF, 0x05)]
      { regs 0x0100 0 0 0 0xFFFE 0x0200 with ime := true }))
    (fun s => (s.peek 0xFF0F, s.peek 0xFFFD, s.sp, s.pc, s.af)) = some (0x04, 0x02, 0xFFFC, 0x0041, 0x0200) := by
  decide

/-- I-2. -/
theorem test_interrupt_enabled_only : interruptToTake (cells [(0xFF0F, 0x1F), (0xFFFF, 0x1E)]
    { State.reset with ime := true }) = some .stat := by decide

/-- I-4. -/
theorem test_interrupt_waits_for_stall : seen (cpuTick (cells [(0xFF0F, 0x01), (0xFFFF, 0x01)]
    { State.reset with ime := true, stall := 5 })) (fun s => (s.stall, s.ime, s.pc)) = some (4, true, 0x0100) := by decide

/-- I-5 and I-6: the wake test reads 8 bits, the dispatch test 5. -/
theorem test_halt_exit_without_source : seen (cpuTick (cells [(0xFF0F, 0xE0), (0xFFFF, 0xE0)]
    { State.reset with ime := true, halted := true })) (fun s => (s.halted, s.pc, s.ime)) =
    some (false, 0x0101, true) := by decide

/-- I-7: the push lands on IF. -/
theorem test_interrupt_pushes_over_if : seen (takeInterrupt .vblank (cells [(0xFF0F, 0x01), (0xFFFF, 0x01)]
      { regs 0 0 0 0 0xFF10 0x0305 with ime := true })) (fun s => (s.peek 0xFF0F, s.peek 0xFF0E, s.sp, s.pc)) =
    some (0x03, 0x05, 0xFF0E, 0x0040) := by decide

/-- I-8. -/
theorem test_interrupt_ticks : seen (cpuTick (cells [(0xFF0F, 0x01), (0xFFFF, 0x01)]
      { State.reset with ime := true, params := { intDispatchTicks := 20 } }))
    (fun s => (s.pc, s.stall, s.executed)) = some (0x0040, 19, false) := by decide

/-! ## The display timing unit (section 9 of the vectors) -/

/-- The timeline's row of tick 1: the ungated coincidence request and mode 2. -/
theorem test_ppu_dot_0 : seen (ppuTick State.reset) (fun s => (s.dot, s.peek 0xFF41, s.peek 0xFF0F)) =
    some (1, 0x06, 0x02) := by decide

/-- The row of tick 253: mode 0. -/
theorem test_ppu_dot_252 : seen (ppuTick (cells [(0xFF41, 0x07), (0xFF0F, 0x02)] { State.reset with dot := 252 }))
    (fun s => (s.dot, s.peek 0xFF41, s.peek 0xFF0F)) = some (253, 0x04, 0x02) := by decide

/-- The row of tick 65665: mode 1, the VBLANK request, the frame. -/
theorem test_ppu_vblank : seen (ppuTick (cells [(0xFF0F, 0x02), (0xFF44, 0x90)] State.reset))
    (fun s => (s.peek 0xFF41, s.peek 0xFF0F, s.frames, s.frameReady)) = some (0x01, 0x03, 1, true) := by decide

/-- The row of tick 70224: LY wraps, the window-line counter is cleared. -/
theorem test_ppu_last_line : seen (ppuTick (cells [(0xFF44, 0x99)] { State.reset with dot := 455, windowLine := 9 }))
    (fun s => (s.dot, s.peek 0xFF44, s.windowLine)) = some (0, 0x00, 0) := by decide

/-- P-6 and P-7: the gated coincidence request. -/
theorem test_ppu_gated : [seen (ppuTick (cells [(0xFF45, 0x05), (0xFF44, 0x05), (0xFF41, 0x40)]
      { State.reset with params := { lycIrqRequiresEnable := true } })) (fun s => s.peek 0xFF0F),
    seen (ppuTick (cells [(0xFF45, 0x05), (0xFF44, 0x05)]
      { State.reset with params := { lycIrqRequiresEnable := true } })) (fun s => s.peek 0xFF0F)] =
    [some 0x02, some 0x00] := by decide

/-- R-2 and R-3: one background pixel. -/
theorem test_background_pixel : [pixelShade (cells [(0x8000, 0xFF), (0xFF40, 0x91), (0xFF47, 0xE4)] State.reset) 7 0,
    pixelShade (cells [(0x8000, 0xFF), (0x8001, 0xFF), (0xFF40, 0x91), (0xFF47, 0xE4)] State.reset) 7 0] =
    [.ok 1, .ok 3] := by decide

/-- R-5: a signed tile index. -/
theorem test_background_signed : pixelShade (cells [(0x8800, 0x80), (0x9800, 0x80), (0xFF40, 0x81), (0xFF47, 0xE4)]
    State.reset) 0 0 = .ok 1 := by decide

/-- Sprite 0 of R-7 to R-11: Y = 16, X = 8, the attributes given. -/
def withSprite (lcdc attr lo hi : Byte) : State :=
  cells [(0x8000, lo), (0x8001, hi), (0xFE00, 16), (0xFE01, 8), (0xFE03, attr), (0xFF40, lcdc), (0xFF47, 0xE4),
    (0xFF48, 0xE4)] { State.reset with sprites := [0] }

/-- R-7 and R-8: a sprite over a disabled background, and its transparent neighbour. -/
theorem test_sprite : [pixelShade (withSprite 0x82 0x00 0x80 0x80) 0 0, pixelShade (withSprite 0x82 0x00 0x80 0x80) 1 0,
    pixelShade (withSprite 0x80 0x00 0x80 0x80) 0 0] = [.ok 3, .ok 0, .ok 0] := by decide

/-- R-9 and R-11: X flip, and the background's priority. -/
theorem test_sprite_flip_priority : [pixelShade (withSprite 0x82 0x20 0x80 0x80) 7 0,
    pixelShade (withSprite 0x83 0x80 0x80 0x80) 0 0] = [.ok 3, .ok 3] := by decide

/-- R-12 and R-13: ten sprites at most, and the height of 16. -/
theorem test_sprite_search : [(oamSearch 0 (cells ((List.range 12).map fun i => (0xFE00 + 4 * i, 16)) State.reset)).sprites,
    (oamSearch 15 (cells [(0xFE00, 16), (0xFF40, 0x86)] State.reset)).sprites,
    (oamSearch 15 (cells [(0xFE00, 16), (0xFF40, 0x82)] State.reset)).sprites] =
    [[0, 1, 2, 3, 4, 5, 6, 7, 8, 9], [0], []] := by decide

/-! ## DMA, the memory map, reset, input (sections 10 to 12 of the vectors) -/

/-- D-1 and D-8: the first byte of a copy, plain and through the mirror. -/
theorem test_dma_byte : [seen (memoryTick (cells [(0x8000, 0x5A)] (dmaStart 0x80 State.reset)))
      (fun s => (s.peek 0xFE00, s.dmaCursor, s.dmaActive)),
    seen (memoryTick (cells [(0xC000, 0x5B)] (dmaStart 0xE0 State.reset)))
      (fun s => (s.peek 0xFE00, s.dmaCursor, s.dmaActive))] =
    [some (0x5A, 0x8001, true), some (0x5B, 0xE001, true)] := by decide

/-- D-2: the last byte. -/
theorem test_dma_last : seen (memoryTick (cells [(0x809F, 0x5A)]
      { State.reset with dmaActive := true, dmaCursor := 0x809F })) (fun s => (s.peek 0xFE9F, s.dmaCursor, s.dmaActive)) =
    some (0x5A, 0x80A0, false) := by decide

/-- D-7. -/
theorem test_dma_fault : faultOf (step (dmaStart 0x40 oneBank)) =
    some (.romIndexOutOfRange 0x4000 0x4000 ⟨0x01B0, 0x0013, 0x00D8, 0x014D, 0xFFFE, 0x0100⟩) := by decide

/-- M-5 to M-7. -/
theorem test_memory_map : [seen (memWrite 0x2000 0x01 State.reset) (fun s => (s.mem, byteAt 0x2000 s)),
    seen (memWrite 0xE123 0x5A State.reset) (fun s => (s.mem, byteAt 0xE123 s)),
    seen (memWrite 0xFE00 0x11 State.reset) (fun s => (s.mem, byteAt 0xDE00 s))] =
    [some ([], some 0x00), some ([(0xC123, 0x5A)], some 0x5A), some ([(0xFE00, 0x11)], some 0x00)] := by decide

/-- Z-3. -/
theorem test_malformed_cartridge : faultOf (launch [0x00] [] {} []) = some (.malformedCartridge 1) := by decide

/-- Z-4 to Z-6. -/
theorem test_input : [(inputPhase (some 0x0F) State.reset).mem,
    (inputPhase (some 0x0F) (cells [(0xFF00, 0x0F)] State.reset)).mem,
    (inputPhase (some 0x0E) (cells [(0xFF00, 0x2F)] State.reset)).mem] =
    [[(0xFF00, 0x0F), (0xFF0F, 0x10)], [(0xFF00, 0x0F)], [(0xFF00, 0x2E), (0xFF0F, 0x10)]] := by decide

/-- R458, R460: an environment store and a request in one tick's draw, and the quit. -/
theorem test_draws : (collaborators { State.reset with draws := [{ env := [.store .tima 0x12, .requestTimer] }] }).mem =
      [(0xFF05, 0x12), (0xFF0F, 0x04)] ∧
    refusalOf (step { State.reset with draws := [{ quit := true }] }) = some .quit := by decide

/-- A write of the byte an unlisted address reads as removes the cell; the order is kept. -/
theorem test_memory_canonical : Memory.set [(3, 7), (5, 9)] 3 0x00 = [(5, 9)] ∧
    Memory.set [(3, 7), (5, 9)] 4 0x01 = [(3, 7), (4, 1), (5, 9)] := by decide

/-- R459: the debugger's reads change nothing and read 0xFF in an absent bank. -/
theorem test_debug : readNextThreeBytesAtPc { oneBank with pc := 0x3FFF } = [0x00, 0xFF, 0xFF] ∧
    breaksOnOpcode 0xDD (placed [0xDD]) = true ∧ breaksOnOpcode 0xDD (placed [0xDB]) = false ∧
    (seen (resumeContinuous (some 0xDD) 3 (placed [0xDD])) fun s => s.pc) = some 0x0100 := by decide

/-- R459, D36: the byte is the one step 4 fetches. A dispatch that pushes 0x1234 over its own vector under `store`
fetches 0x34; a fetch in an absent bank fetches none; a tick that quits fetches none. -/
theorem test_breakpoint :
    breaksOnOpcode 0x34 (cells [(0xFF0F, 0x01), (0xFFFF, 0x01)]
      { storing with ime := true, sp := 0x0042, pc := 0x1234 }) = true ∧
    breaksOnOpcode 0xFF { oneBank with pc := 0x7FFF } = false ∧
    breaksOnOpcode 0x00 { State.reset with draws := [{ quit := true }] } = false := by decide

/-- The opcode table's numbering: a three-byte row, a CB row. -/
theorem test_fetch_word : seen (step (State.reset.withFetchWord 24 0x5678CD)) (fun s => s.pc) = some 0x5678 ∧
    seen (step (State.reset.withFetchWord 16 0xCB37)) (fun s => s.af) = some 0x1000 := by decide

/-! ## Witnesses: states and operands that meet the hypotheses of each statement, clause by clause -/

/-- The reset state with HL = 0x8000, which holds 0x5A. -/
def atVram : State := cells [(0x8000, 0x5A)] { State.reset with hl := 0x8000 }

/-- The reset state with the interrupt sources `iflags` requested, all enabled, IME set. -/
def requested (iflags : Byte) : State := cells [(0xFF0F, iflags), (0xFFFF, 0x1F)] { State.reset with ime := true }

/-- CopyRegister: a copy of a register into itself, F's low nibble clear. -/
theorem witness_copyRegister : (0x40, Instr.ldBB, Reg8.b, Reg8.b) ∈ copyRows ∧ State.reset.af &&& 0x000F = 0 := by
  decide

/-- LoadRegisterAtHl, LoadAccumulator, AddAndAdc, SubtractAndCompare, LogicOperations, TestBit: a readable byte, and
a read that faults, at both ends of the absent bank. -/
theorem witness_reads : memRead atVram.hl atVram = .ok 0x5A ∧ memRead 0x3FFF oneBank = .ok 0x00 ∧
    memRead 0x4000 oneBank = .error (.romIndexOutOfRange 0x4000 0x4000 oneBank.snapshot) ∧
    memRead 0x7FFF oneBank = .error (.romIndexOutOfRange 0x7FFF 0x7FFF oneBank.snapshot) := by decide

/-- StoreByte, StoreStackPointer, MemoryWrite: the writable and the absent addresses, and each case of a store. -/
theorem witness_writes : Writable State.reset 0x0000 ∧ Writable storing 0x3FFF ∧ Writable storing 0x8000 ∧
    ¬Writable storing 0x4000 ∧ ¬Writable storing 0x7FFF ∧ Writable State.reset 0xFFFF ∧
    Writable State.reset (0xFFFF + 1) ∧ State.reset.params.romWritePolicy = .ignore ∧
    storing.params.romWritePolicy = .store ∧ mirror 0xE000 = mirror 0xC000 ∧ mirror 0xFDFF = mirror 0xDDFF ∧
    mirror 0xFE00 ≠ mirror 0xDE00 := by
  simp only [Writable]
  decide

/-- IncrementAndDecrement, RotateOperand, ShiftOperand, ResetAndSetBit, PrefixSelectsCbRow: a byte both readable and
writable, and one whose read faults. -/
theorem witness_readModifyWrite : memRead atVram.hl atVram = .ok 0x5A ∧ Writable atVram atVram.hl ∧
    Readable atVram atVram.hl ∧ memRead 0x3FFF storing = .ok 0x00 ∧ Writable storing 0x3FFF ∧
    memRead 0x4000 storing = .error (.romIndexOutOfRange 0x4000 0x4000 storing.snapshot) := by
  simp only [Writable, Readable]
  decide

/-- PushPair, CallSubroutine: a push at the two ends of the address space. -/
theorem witness_canPush : CanPush State.reset ∧ CanPush { State.reset with sp := 0x0001 } ∧
    CanPush { storing with sp := 0x8002 } ∧ ¬CanPush { storing with sp := 0x8001 } := by
  simp only [CanPush, Writable]
  decide

/-- PopPair, ReturnFromSubroutine: a pop that wraps, one whose first read faults, one whose second read faults with
SP advanced. -/
theorem witness_pop : Stacked 0x1200 (cells [(0x0000, 0x12)] { State.reset with sp := 0xFFFF }) ∧
    PopFaults (.romIndexOutOfRange 0x4000 0x4000 ⟨0x01B0, 0x0013, 0x00D8, 0x014D, 0x4000, 0x0100⟩)
      { oneBank with sp := 0x4000 } ∧
    PopFaults (.romIndexOutOfRange 0x4000 0x4000 ⟨0x01B0, 0x0013, 0x00D8, 0x014D, 0x4000, 0x0100⟩)
      { oneBank with sp := 0x3FFF } :=
  ⟨⟨by decide, by decide⟩, .inl (by decide), .inr ⟨0x00, by decide, by decide⟩⟩

/-- PushThenPopRestores: the stack at the top of the high region and at its bottom. -/
theorem witness_stackRoundTrip : (∀ sp ∈ [(0xFFFE : Word), 0x8002, 0x0000], 0x8000 ≤ (sp - 1).toNat ∧
    0x8000 ≤ (sp - 2).toNat ∧ sp - 1 ≠ 0xFF00 ∧ sp - 1 ≠ 0xFF46 ∧ sp - 2 ≠ 0xFF00 ∧ sp - 2 ≠ 0xFF46) ∧
    State.reset.af &&& 0x000F = 0 := by
  refine ⟨fun sp h => ?_, by decide⟩
  simp only [List.mem_cons, List.not_mem_nil, or_false] at h
  rcases h with rfl | rfl | rfl <;> decide

/-- DecimalAdjust: after an addition and after a subtraction. -/
theorem witness_decimalAdjust : (acc 0x3C00 0).flags.n = false ∧ (acc 0x0F60 0).flags.n = true := by decide

/-- CallSubroutine, ReturnFromSubroutine: a condition that holds and one that does not. -/
theorem witness_conditions : (!(acc 0x0000 0).flags.z) = true ∧ (!(acc 0x0080 0).flags.z) = false ∧
    (acc 0x0010 0).flags.c = true ∧ (acc 0x0000 0).flags.c = false := by decide

/-- StopIsRefused: STOP at the boundary. -/
theorem witness_stop : (placed [0x10]).nextDraw.quit = false ∧ memoryTick (placed [0x10]) = .next (placed [0x10]) ∧
    AtBoundary (placed [0x10]) ∧ memRead (placed [0x10]).pc (placed [0x10]) = .ok 0x10 :=
  ⟨by decide, rfl, ⟨by decide, by decide, by decide⟩, by decide⟩

/-- MemoryRead: each clause at the ends of its range. -/
theorem witness_memoryRead : (0x3FFF < oneBank.romBanks * 0x4000 ∧ oneBank.romBanks * 0x4000 ≤ 0x4000) ∧
    (0x8000 ≤ (0xDFFF : Word).toNat ∧ (0xDFFF : Word).toNat < 0xE000) ∧
    (0xFDFF < (0xFE00 : Word).toNat ∧ (0xFDFF : Word).toNat ≤ 0xFDFF) ∧ 2 ≤ State.reset.romBanks := by decide

/-- MemoryTickCopiesOneByte: idle, copying, and a source byte that faults. -/
theorem witness_memoryTick : State.reset.dmaActive = false ∧ (dmaStart 0x80 State.reset).dmaActive = true ∧
    memRead (dmaStart 0x80 State.reset).dmaCursor (dmaStart 0x80 State.reset) = .ok 0x00 ∧
    memRead (dmaStart 0x40 oneBank).dmaCursor (dmaStart 0x40 oneBank) =
      .error (.romIndexOutOfRange 0x4000 0x4000 oneBank.snapshot) := by decide

/-- DmaCopiesPageInto160Ticks: a copy just started, from VRAM and from the mirror. -/
theorem witness_dmaCopy : ∀ v ∈ [(0x80 : Byte), 0xE0, 0x00], 2 ≤ (dmaStart v State.reset).romBanks ∧
    (dmaStart v State.reset).dmaActive = true ∧
    (dmaStart v State.reset).dmaCursor = BitVec.ofNat 16 (v.toNat * 0x100) := by decide

/-- HaltAndStall: halted with nothing requested, halted with a request, stalled. -/
theorem witness_haltAndStall : State.reset.peek 0xFFFF &&& State.reset.peek 0xFF0F = 0 ∧
    (requested 0x01).peek 0xFFFF &&& (requested 0x01).peek 0xFF0F ≠ 0 ∧
    { State.reset with stall := 1 }.stall = 0 + 1 := by decide

/-- InterruptPriority: a dispatch and the two ways to none. -/
theorem witness_interruptPriority : interruptToTake (requested 0x14) = some .timer ∧
    interruptToTake (requested 0x00) = none ∧ interruptToTake { requested 0x01 with ime := false } = none := by decide

/-- InterruptDispatch: a dispatch that goes on in its tick, and one that ends it. -/
theorem witness_interruptDispatch : CanPush (requested 0x04) ∧ (requested 0x04).halted = false ∧
    (requested 0x04).stall = 0 ∧ interruptToTake (requested 0x04) = some .timer ∧
    (requested 0x04).params.intDispatchTicks = 0 ∧
    { requested 0x04 with params := { intDispatchTicks := 20 } }.params.intDispatchTicks = 19 + 1 := by
  simp only [CanPush, Writable]
  decide

/-- StepRunsDecodedInstruction: a two-byte instruction at the reset PC. -/
theorem witness_stepRuns : (placed [0xCB, 0x37]).nextDraw.quit = false ∧
    memoryTick (placed [0xCB, 0x37]) = .next (placed [0xCB, 0x37]) ∧ AtBoundary (placed [0xCB, 0x37]) ∧
    [(0x37 : Byte)].length = operandCount 0xCB ∧ AtPc [0xCB, 0x37] (placed [0xCB, 0x37]) ∧
    decode [0xCB, 0x37] = .ok .swapA := by
  refine ⟨by decide, rfl, ⟨by decide, by decide, by decide⟩, by decide, ?_, by decide⟩
  unfold AtPc
  decide

/-- Line 80's sprite row lies in the absent bank: its OAM entry was changed after the search. -/
def badSprite : State :=
  cells [(0xFE00, 255), (0xFE01, 8), (0xFF40, 0x82)] { oneBank with sprites := [0], dot := 80, stall := 1 }

/-- PhasesInOrder: a whole tick, and a stop in each phase that can stop. -/
theorem witness_phases : State.reset.nextDraw.quit = false ∧
    (seen (memoryTick State.reset) fun _ => ()) = some () ∧ (seen (cpuTick State.reset) fun _ => ()) = some () ∧
    (seen (ppuTick (collaborators State.reset)) fun _ => ()) = some () ∧
    (faultOf (memoryTick (dmaStart 0x40 oneBank))).isSome = true ∧
    (faultOf (cpuTick { oneBank with pc := 0x4000 })).isSome = true ∧
    (refusalOf (cpuTick (placed [0x10]))).isSome = true ∧
    (seen (cpuTick badSprite) fun _ => ()) = some () ∧
    (faultOf (ppuTick (collaborators badSprite))).isSome = true := by decide

/-- InputAndEnvironment: no draw, and a draw with two stores to one register, the later of which stays. -/
theorem witness_draws : State.reset.draws = [] ∧
    (collaborators { State.reset with draws := [{ env := [.store .tma 0x12, .store .tma 0x34] }] }).mem =
      [(0xFF06, 0x34)] ∧
    { State.reset with draws := [{ env := [.store .tma 0x12] }] }.draws = [{ env := [.store .tma 0x12] }] := by decide

/-- PpuCountersAndFrame, PpuStatBits, PpuInterruptRequests: the dots at which the PPU acts, with their lines. -/
theorem witness_ppu : (∀ d ∈ [0, 80, 252, 455], d ≤ 455) ∧ SpriteDataPresent State.reset ∧
    SpriteDataPresent oneBank ∧ SpriteDataPresent { oneBank with dot := 80 } ∧
    SpriteDataPresent (cells [(0xFF40, 0x82), (0xFF44, 144)] { oneBank with dot := 80, sprites := [0] }) ∧
    SpriteDataPresent (cells [(0xFE00, 16), (0xFF40, 0x82)] { oneBank with dot := 80, sprites := [0] }) ∧
    (cells [(0xFF44, 143)] State.reset).peek 0xFF44 = 143 ∧ (cells [(0xFF44, 144)] State.reset).peek 0xFF44 = 144 :=
  ⟨by decide, .inr (.inr (.inr (.inl (by decide)))), .inl (by decide), .inr (.inr (.inl (by decide))),
    .inr (.inl (by decide)), .inr (.inr (.inr (.inr (by simp only [Readable]; decide)))), by decide, by decide⟩

/-- SpriteSearch: the first and last visible line at dot 0, and the first line after them. -/
theorem witness_spriteSearch : State.reset.dot = 0 ∧ (State.reset.peek 0xFF44).toNat < 144 ∧
    ((cells [(0xFF44, 143)] State.reset).peek 0xFF44).toNat < 144 ∧
    144 ≤ ((cells [(0xFF44, 144)] State.reset).peek 0xFF44).toNat := by decide

/-- BackgroundLine: dot 80 of the last visible line with sprites off, and dot 80 of the line after it. -/
theorem witness_backgroundLine : ((cells [(0xFF44, 143)] State.reset).peek 0xFF44).toNat = (143 : Fin 144).val ∧
    ((cells [(0xFF44, 143)] State.reset).peek 0xFF40).getLsbD 1 = false ∧
    144 ≤ ((cells [(0xFF44, 144)] State.reset).peek 0xFF44).toNat := by decide

/-- Two sprites at the same place; the tile's row 0 is opaque in its first column only. -/
def twoSprites : State :=
  cells [(0x8000, 0x80), (0xFE00, 16), (0xFE01, 8), (0xFE04, 16), (0xFE05, 8), (0xFF40, 0x82)]
    { State.reset with sprites := [0, 1], dot := 80 }

/-- SpriteOverlay: at column 0 the first of two equal sprites wins, at column 1 both are transparent. -/
theorem witness_spriteOverlay : SpriteDataPresent twoSprites ∧ twoSprites.dot = 80 ∧
    (twoSprites.peek 0xFF44).toNat = (0 : Fin 144).val ∧ (twoSprites.peek 0xFF40).getLsbD 1 = true ∧
    (∀ i ∈ twoSprites.sprites, Covers twoSprites 1 i → spriteIndex twoSprites 1 0 i = 0) ∧
    twoSprites.sprites[0]? = some 0 ∧ Covers twoSprites 0 0 ∧ spriteIndex twoSprites 0 0 0 ≠ 0 ∧
    twoSprites.sprites[1]? = some 1 ∧ Covers twoSprites 0 1 ∧ spriteIndex twoSprites 0 0 1 ≠ 0 ∧
    (∀ (q : Nat) (j : Fin 40), q ≠ 0 → twoSprites.sprites[q]? = some j → Covers twoSprites 0 j →
      spriteIndex twoSprites 0 0 j ≠ 0 → oam twoSprites 0 1 < oam twoSprites j 1 ∨
        (oam twoSprites 0 1 = oam twoSprites j 1 ∧ 0 < q)) := by
  simp only [Covers]
  refine ⟨.inr (.inr (.inr (.inl (by decide)))), by decide, by decide, by decide, by decide, by decide, by decide, by decide, by decide,
    by decide, by decide, ?_⟩
  intro q j hq hs _ _
  match q, hq, hs with
  | 1, _, hs =>
    obtain rfl : j = 1 := by simpa [twoSprites, cells, State.poke] using hs.symm
    exact .inr ⟨by decide, by decide⟩
  | q + 2, _, hs => simp [twoSprites, cells, State.poke] at hs

/-- LaunchLoadsCartridge: no byte, one byte, and a one-bank image. -/
theorem witness_launch : ([] : List Byte).length = 0 ∧ [(0x00 : Byte)].length % 0x4000 ≠ 0 ∧
    (List.replicate 0x4000 (0x00 : Byte)).length ≠ 0 ∧ (List.replicate 0x4000 (0x00 : Byte)).length % 0x4000 = 0 := by
  rw [List.length_replicate]
  decide

/-- DecodeEncode, DecoderIsTotal: a well-formed three-byte instruction and its bytes. -/
theorem witness_decoder : (Instr.callA16 0x5678).wellFormed = true ∧ operandCount 0xCD ≤ [(0x78 : Byte), 0x56].length ∧
    (0xCD : Byte) ≠ 0x10 := by decide

/-- A state in the middle of a frame, a copy and an instruction. -/
def midRun : State :=
  cells [(0xC000, 0x5A)] { dmaStart 0x80 State.reset with dot := 455, stall := 23, sprites := [0], windowLine := 9 }

/-- StepKeepsInvariant: that state meets the invariant, and its tick ends in a next state. -/
theorem witness_invariant : midRun.Inv ∧ (seen (step midRun) fun s => s.stall) = some 22 := by
  refine ⟨?_, by decide⟩
  constructor <;> decide

/-- StepStopsOnlyForCause: two banks, a fault with one bank, a quit. -/
theorem witness_stops : 2 ≤ State.reset.romBanks ∧ (faultOf (step { oneBank with pc := 0x7FFF })).isSome = true ∧
    { State.reset with draws := [{ quit := true }] }.nextDraw.quit = true := by decide

/-- DebuggerRequests: a tick that executes, one that STOP refuses, one that faults, each at its breakpoint or none. -/
theorem witness_debugger : breaksOnOpcode 0x00 State.reset = true ∧
    (seen (step State.reset) fun s => s.executed) = some true ∧
    refusalOf (step (placed [0x10])) = some (.stopNotModelled 0x0100) ∧ breaksOnOpcode 0x10 (placed [0x10]) = true ∧
    (seen (step { oneBank with pc := 0x7FFF }) fun _ => ()) = none := by decide

/-- ProtectedBytes: a tick and a CPU tick with next states, ROM writes ignored. -/
theorem witness_protectedBytes : (seen (step State.reset) fun s => s.pc) = some 0x0101 ∧
    (seen (cpuTick State.reset) fun s => s.pc) = some 0x0101 ∧
    State.reset.params.romWritePolicy = .ignore := by decide

/-- ImeAndHaltedWriters: each unit with a next state, and a CPU tick that leaves the halt. -/
theorem witness_imeAndHalted : (seen (exec .reti State.reset) fun s => s.ime) = some true ∧
    (seen (memoryTick (dmaStart 0x80 State.reset)) fun s => s.dmaCursor) = some 0x8001 ∧
    (seen (ppuTick State.reset) fun s => s.dot) = some 1 ∧
    (seen (takeInterrupt .joypad (requested 0x10)) fun s => s.ime) = some false ∧
    (seen (cpuTick { requested 0x10 with halted := true, stall := 1 }) fun s => s.halted) = some false := by decide

end Sys2Proof.Tests
end

section
/-! The pixels never feed back (00_scope.md R5; 10_state.md R65; 60_exceptions.md R405): every unit of the tick, run
on two states that differ only in the frame buffer and the frames presented, ends in outcomes that do too. -/

namespace Sys2Proof.Machine

open Sys2Proof.Claims

section
variable (s : State) (f : Frame) (p : List Frame)

@[simp] theorem withoutPictures_twice (g : Frame) (q : List Frame) :
    withoutPictures (withoutPictures s f p) g q = withoutPictures s g q := rfl

/-! What an operation reads of the state is not the pictures. -/

@[simp] theorem bc_withoutPictures : (withoutPictures s f p).bc = s.bc := rfl

@[simp] theorem de_withoutPictures : (withoutPictures s f p).de = s.de := rfl

@[simp] theorem hl_withoutPictures : (withoutPictures s f p).hl = s.hl := rfl

@[simp] theorem sp_withoutPictures : (withoutPictures s f p).sp = s.sp := rfl

@[simp] theorem pc_withoutPictures : (withoutPictures s f p).pc = s.pc := rfl

@[simp] theorem halted_withoutPictures : (withoutPictures s f p).halted = s.halted := rfl

@[simp] theorem stall_withoutPictures : (withoutPictures s f p).stall = s.stall := rfl

@[simp] theorem dmaActive_withoutPictures : (withoutPictures s f p).dmaActive = s.dmaActive := rfl

@[simp] theorem dot_withoutPictures : (withoutPictures s f p).dot = s.dot := rfl

@[simp] theorem frameReady_withoutPictures : (withoutPictures s f p).frameReady = s.frameReady := rfl

@[simp] theorem params_withoutPictures : (withoutPictures s f p).params = s.params := rfl

@[simp] theorem nextDraw_withoutPictures : (withoutPictures s f p).nextDraw = s.nextDraw := rfl

@[simp] theorem peek_withoutPictures (n : Nat) : (withoutPictures s f p).peek n = s.peek n := rfl

@[simp] theorem ieReg_withoutPictures : (withoutPictures s f p).ieReg = s.ieReg := rfl

@[simp] theorem ifReg_withoutPictures : (withoutPictures s f p).ifReg = s.ifReg := rfl

@[simp] theorem reg16_withoutPictures (r : Reg16) : (withoutPictures s f p).reg16 r = s.reg16 r := rfl

@[simp] theorem reg8_withoutPictures (r : Reg8) : (withoutPictures s f p).reg8 r = s.reg8 r := rfl

@[simp] theorem flags_withoutPictures : (withoutPictures s f p).flags = s.flags := rfl

@[simp] theorem memRead_withoutPictures (a : Word) : memRead a (withoutPictures s f p) = memRead a s := rfl

@[simp] theorem condHolds_withoutPictures (cc : Cond) : condHolds cc (withoutPictures s f p) = condHolds cc s := rfl

@[simp] theorem interruptToTake_withoutPictures : interruptToTake (withoutPictures s f p) = interruptToTake s := rfl

theorem insertByX_withoutPictures (i : Fin 40) (l : List (Fin 40)) :
    insertByX (withoutPictures s f p) i l = insertByX s i l := by
  induction l with
  | nil => rfl
  | cons j r ih =>
    unfold insertByX
    rw [ih]
    rfl

theorem sortByX_withoutPictures (l : List (Fin 40)) : sortByX (withoutPictures s f p) l = sortByX s l := by
  induction l with
  | nil => rfl
  | cons i r ih => rw [sortByX, ih, insertByX_withoutPictures, sortByX]

theorem spriteShade_withoutPictures (x ly : Nat) (ci : Shade) (l : List (Fin 40)) :
    spriteShade (withoutPictures s f p) x ly ci l = spriteShade s x ly ci l := by
  induction l with
  | nil => rfl
  | cons i r ih =>
    unfold spriteShade
    rw [ih]
    rfl

theorem pixelShade_withoutPictures (x ly : Nat) : pixelShade (withoutPictures s f p) x ly = pixelShade s x ly := by
  unfold pixelShade
  dsimp only
  rw [spriteShade_withoutPictures, sortByX_withoutPictures]
  rfl

theorem firstPixelFault_withoutPictures (ly : Nat) (xs : List Nat) :
    firstPixelFault (withoutPictures s f p) ly xs = firstPixelFault s ly xs := by
  induction xs with
  | nil => rfl
  | cons x r ih => rw [firstPixelFault, pixelShade_withoutPictures, ih, firstPixelFault]

/-! An update of the state passes under the pictures. -/

@[simp] theorem setReg16_withoutPictures (r : Reg16) (w : Word) :
    (withoutPictures s f p).setReg16 r w = withoutPictures (s.setReg16 r w) f p := by cases r <;> rfl

@[simp] theorem setReg8_withoutPictures (r : Reg8) (v : Byte) :
    (withoutPictures s f p).setReg8 r v = withoutPictures (s.setReg8 r v) f p := by cases r <;> rfl

@[simp] theorem setFlags_withoutPictures (g : Flags) :
    (withoutPictures s f p).setFlags g = withoutPictures (s.setFlags g) f p := rfl

@[simp] theorem rotateA_withoutPictures (op : RotOp) :
    rotateA op (withoutPictures s f p) = withoutPictures (rotateA op s) f p := rfl

@[simp] theorem aluOn_withoutPictures (op : AluOp) (b : Byte) :
    aluOn op b (withoutPictures s f p) = withoutPictures (aluOn op b s) f p := by
  unfold aluOn
  dsimp only
  split <;> rfl

theorem stored_withoutPictures (a : Word) (v : Byte) :
    (withoutPictures s f p).stored a v = withoutPictures (s.stored a v) f p := by
  unfold State.stored
  rw [params_withoutPictures]
  cases s.params.romWritePolicy <;> split_ifs <;> rfl

theorem enterMode_withoutPictures (m : Nat) :
    enterMode m (withoutPictures s f p) = withoutPictures (enterMode m s) f p := by
  unfold enterMode
  cases modeEnableBit m with
  | none => rfl
  | some k =>
    simp only [apply_ite (withoutPictures · f p)]
    rfl

theorem coincidence_withoutPictures : coincidence (withoutPictures s f p) = withoutPictures (coincidence s) f p := by
  unfold coincidence
  simp only [apply_ite (withoutPictures · f p)]
  rfl

theorem vblank_withoutPictures : vblank (withoutPictures s f p) = withoutPictures (vblank s) f p := rfl

theorem oamSearch_withoutPictures (ly : Nat) :
    oamSearch ly (withoutPictures s f p) = withoutPictures (oamSearch ly s) f p := rfl

theorem advanceDot_withoutPictures (ly : Byte) :
    advanceDot ly (withoutPictures s f p) = withoutPictures (advanceDot ly s) f p := by
  unfold advanceDot endOfLine
  simp only [apply_ite (withoutPictures · f p)]
  rfl

theorem inputPhase_withoutPictures (d : Option (BitVec 4)) :
    inputPhase d (withoutPictures s f p) = withoutPictures (inputPhase d s) f p := by
  cases d with
  | none => rfl
  | some n =>
    unfold inputPhase
    simp only [apply_ite (withoutPictures · f p)]
    rfl

theorem envAction_withoutPictures (e : EnvAction) :
    envAction e (withoutPictures s f p) = withoutPictures (envAction e s) f p := by cases e <;> rfl

theorem envPhase_withoutPictures (d : List EnvAction) :
    envPhase d (withoutPictures s f p) = withoutPictures (envPhase d s) f p := by
  induction d generalizing s with
  | nil => rfl
  | cons e r ih => rw [envPhase, envAction_withoutPictures, ih, envPhase]

theorem collaborators_withoutPictures :
    collaborators (withoutPictures s f p) = withoutPictures (collaborators s) f p := by
  unfold collaborators
  rw [inputPhase_withoutPictures, envPhase_withoutPictures]
  rfl

end

/-! Outcomes up to the pictures: how agreement passes through the control of an outcome. -/

/-- Both sides are compared with the continuation of the erased outcome. -/
theorem picturesErased_andThen {o o' : Result} {k k' : State → Result}
    (h : picturesErased o = picturesErased o')
    (hk : ∀ m f p, picturesErased (k (withoutPictures m f p)) = picturesErased (k' m)) :
    picturesErased (andThen o k) = picturesErased (andThen o' k') := by
  have hm : ∀ m, picturesErased (k m) = picturesErased (k' (withoutPictures m Config.frameInit [])) := fun m =>
    hk (withoutPictures m Config.frameInit []) m.frame m.presented
  calc
    picturesErased (andThen o k) = picturesErased (andThen (picturesErased o) k') := by
      cases o with
      | next m => exact hm m
      | fault r => rfl
      | refused r => rfl
    _ = picturesErased (andThen (picturesErased o') k') := by rw [h]
    _ = picturesErased (andThen o' k') := by
      cases o' with
      | next m => exact (hm m).symm.trans (hk m m.frame m.presented)
      | fault r => rfl
      | refused r => rfl

section
variable (s : State) (f : Frame) (p : List Frame)

@[simp] theorem picturesErased_next : picturesErased (.next s) = .next (withoutPictures s Config.frameInit []) := rfl

theorem picturesErased_readThen (a : Word) {k k' : Byte → Result}
    (hk : ∀ v, picturesErased (k v) = picturesErased (k' v)) :
    picturesErased (readThen a (withoutPictures s f p) k) = picturesErased (readThen a s k') := by
  unfold readThen
  rw [memRead_withoutPictures]
  cases memRead a s with
  | ok v => exact hk v
  | error r => rfl

theorem picturesErased_readOperandThen (o : Operand8) {k k' : Byte → Result}
    (hk : ∀ v, picturesErased (k v) = picturesErased (k' v)) :
    picturesErased (readOperandThen o (withoutPictures s f p) k) = picturesErased (readOperandThen o s k') := by
  cases o with
  | reg r => exact hk (s.reg8 r)
  | atHl => exact picturesErased_readThen s f p s.hl hk

/-! The shared operations of the CPU. -/

@[simp] theorem picturesErased_memWrite (a : Word) (v : Byte) :
    picturesErased (memWrite a v (withoutPictures s f p)) = picturesErased (memWrite a v s) := by
  by_cases h : Writable s a
  · have h' : Writable (withoutPictures s f p) a := h
    rw [memWrite_next v h, memWrite_next v h', stored_withoutPictures]
    rfl
  · have h' : ¬Writable (withoutPictures s f p) a := h
    rw [memWrite_fault v h, memWrite_fault v h']
    rfl

@[simp] theorem picturesErased_write8 (o : Operand8) (v : Byte) :
    picturesErased (write8 o v (withoutPictures s f p)) = picturesErased (write8 o v s) := by
  cases o with
  | reg r => simp [write8]
  | atHl => exact picturesErased_memWrite s f p s.hl v

@[simp] theorem picturesErased_push16 (w : Word) :
    picturesErased (push16 w (withoutPictures s f p)) = picturesErased (push16 w s) :=
  picturesErased_andThen (picturesErased_memWrite { s with sp := s.sp - 1 } f p (s.sp - 1) (hiByte w)) fun m f p =>
    picturesErased_memWrite { m with sp := m.sp - 1 } f p (m.sp - 1) (loByte w)

@[simp] theorem picturesErased_callSub (a : Word) :
    picturesErased (callSub a (withoutPictures s f p)) = picturesErased (callSub a s) :=
  picturesErased_andThen (picturesErased_push16 s f p s.pc) fun _ _ _ => rfl

theorem picturesErased_pop16 {k : Word → State → Result}
    (hk : ∀ w m f p, picturesErased (k w (withoutPictures m f p)) = picturesErased (k w m)) :
    picturesErased (pop16 (withoutPictures s f p) k) = picturesErased (pop16 s k) :=
  picturesErased_readThen s f p s.sp fun _ =>
    picturesErased_readThen { s with sp := s.sp + 1 } f p (s.sp + 1) fun _ => hk _ { s with sp := s.sp + 1 + 1 } f p

@[simp] theorem picturesErased_popTo (r : Reg16) :
    picturesErased (popTo r (withoutPictures s f p)) = picturesErased (popTo r s) :=
  picturesErased_pop16 s f p fun w m f p => by simp

@[simp] theorem picturesErased_retSub :
    picturesErased (retSub (withoutPictures s f p)) = picturesErased (retSub s) :=
  picturesErased_pop16 s f p fun _ _ _ _ => rfl

@[simp] theorem picturesErased_returnFromInterrupt :
    picturesErased (returnFromInterrupt (withoutPictures s f p)) = picturesErased (returnFromInterrupt s) :=
  picturesErased_andThen (picturesErased_retSub s f p) fun _ _ _ => rfl

theorem picturesErased_takeInterrupt (i : Source) :
    picturesErased (takeInterrupt i (withoutPictures s f p)) = picturesErased (takeInterrupt i s) :=
  picturesErased_callSub { s.poke 0xFF0F (s.ifReg &&& ~~~(1#8 <<< (sourceBit i))) with ime := false } f p _

@[simp] theorem picturesErased_loadFrom (r : Reg8) (a : Word) :
    picturesErased (loadFrom r a (withoutPictures s f p)) = picturesErased (loadFrom r a s) :=
  picturesErased_readThen s f p a fun v => by simp

@[simp] theorem picturesErased_aluOperand (op : AluOp) (o : Operand8) :
    picturesErased (aluOperand op o (withoutPictures s f p)) = picturesErased (aluOperand op o s) :=
  picturesErased_readOperandThen s f p o fun b => by simp

@[simp] theorem picturesErased_stepOperand (g : Byte → Flags → Byte × Flags) (o : Operand8) :
    picturesErased (stepOperand g o (withoutPictures s f p)) = picturesErased (stepOperand g o s) :=
  picturesErased_readOperandThen s f p o fun _ =>
    picturesErased_andThen (picturesErased_write8 s f p o _) fun _ _ _ => rfl

@[simp] theorem picturesErased_rotateOperand (op : RotOp) (o : Operand8) :
    picturesErased (rotateOperand op o (withoutPictures s f p)) = picturesErased (rotateOperand op o s) :=
  picturesErased_readOperandThen s f p o fun _ =>
    picturesErased_andThen (picturesErased_write8 s f p o _) fun _ _ _ => rfl

@[simp] theorem picturesErased_bitOperand (b : Nat) (o : Operand8) :
    picturesErased (bitOperand b o (withoutPictures s f p)) = picturesErased (bitOperand b o s) :=
  picturesErased_readOperandThen s f p o fun _ => rfl

@[simp] theorem picturesErased_mapOperand (g : Byte → Byte) (o : Operand8) :
    picturesErased (mapOperand g o (withoutPictures s f p)) = picturesErased (mapOperand g o s) :=
  picturesErased_readOperandThen s f p o fun _ => picturesErased_write8 s f p o _

@[simp] theorem picturesErased_jumpIf (cc : Cond) (a : Word) :
    picturesErased (jumpIf cc a (withoutPictures s f p)) = picturesErased (jumpIf cc a s) := by
  unfold jumpIf
  rw [condHolds_withoutPictures]
  split <;> rfl

@[simp] theorem picturesErased_callIf (cc : Cond) (a : Word) :
    picturesErased (callIf cc a (withoutPictures s f p)) = picturesErased (callIf cc a s) := by
  unfold callIf
  rw [condHolds_withoutPictures]
  split
  · exact picturesErased_callSub s f p a
  · rfl

@[simp] theorem picturesErased_retIf (cc : Cond) :
    picturesErased (retIf cc (withoutPictures s f p)) = picturesErased (retIf cc s) := by
  unfold retIf
  rw [condHolds_withoutPictures]
  split
  · exact picturesErased_retSub s f p
  · rfl

@[simp] theorem picturesErased_selectCb (b : Byte) :
    picturesErased (selectCb b (withoutPictures s f p)) = picturesErased (selectCb b s) := by
  unfold selectCb
  dsimp only
  split <;> simp

@[simp] theorem picturesErased_copyReg (dst src : Reg8) :
    picturesErased (copyReg dst src (withoutPictures s f p)) = picturesErased (copyReg dst src s) := by
  simp [copyReg]

@[simp] theorem picturesErased_addHl (r : Reg16) :
    picturesErased (addHl r (withoutPictures s f p)) = picturesErased (addHl r s) := rfl

@[simp] theorem picturesErased_spRelative (r : Reg16) (n : Byte) :
    picturesErased (spRelative r n (withoutPictures s f p)) = picturesErased (spRelative r n s) := by
  simp [spRelative]

@[simp] theorem picturesErased_logIllegal (op : Byte) :
    picturesErased (logIllegal op (withoutPictures s f p)) = picturesErased (logIllegal op s) := rfl

/-- No instruction depends on the pictures: each is a shared operation, or a change of registers and CPU flags, or one
after the other. -/
theorem picturesErased_exec (i : Instr) :
    picturesErased (exec i (withoutPictures s f p)) = picturesErased (exec i s) := by
  cases i
  case jrE8 | jpA16 | jpHl | halt | di | ei => rfl
  case ldAtA16Sp a =>
    exact picturesErased_andThen (picturesErased_memWrite s f p a _) fun m f p => picturesErased_memWrite m f p _ _
  case ldAtHlIncA | ldAtHlDecA =>
    exact picturesErased_andThen (picturesErased_memWrite s f p s.hl _) fun _ _ _ => rfl
  case ldAAtHlInc | ldAAtHlDec =>
    exact picturesErased_andThen (picturesErased_loadFrom s f p .a s.hl) fun _ _ _ => rfl
  all_goals simp

/-! The CPU tick: what is fetched is the same instruction, with the same registers after it. -/

theorem fetch8_withoutPictures :
    fetch8 (withoutPictures s f p) = (fetch8 s).map (Prod.map id (withoutPictures · f p)) := by
  unfold fetch8
  rw [pc_withoutPictures, memRead_withoutPictures]
  cases memRead s.pc s <;> rfl

theorem fetchBytes_withoutPictures (n : Nat) :
    fetchBytes n (withoutPictures s f p) = (fetchBytes n s).map (Prod.map id (withoutPictures · f p)) := by
  induction n generalizing s with
  | zero => rfl
  | succ n ih =>
    rw [fetchBytes, fetchBytes, fetch8_withoutPictures]
    cases fetch8 s with
    | error r => rfl
    | ok bt =>
      simp only [Except.map, Prod.map]
      rw [ih]
      cases fetchBytes n bt.2 <;> rfl

theorem fetchInstr_withoutPictures :
    fetchInstr (withoutPictures s f p) = (fetchInstr s).map (Prod.map id (withoutPictures · f p)) := by
  unfold fetchInstr
  rw [fetch8_withoutPictures]
  cases fetch8 s with
  | error r => rfl
  | ok bt =>
    obtain ⟨b, t⟩ := bt
    dsimp only [Except.map, Prod.map, id]
    rw [fetchBytes_withoutPictures]
    cases fetchBytes (operandCount b) t with
    | error r => rfl
    | ok rt =>
      dsimp only [Except.map, Prod.map, id]
      cases decode (b :: rt.1) <;> rfl

theorem picturesErased_fetchExecute :
    picturesErased (fetchExecute (withoutPictures s f p)) = picturesErased (fetchExecute s) := by
  unfold fetchExecute
  rw [fetchInstr_withoutPictures]
  cases fetchInstr s with
  | error r => rfl
  | ok it => exact picturesErased_andThen (picturesErased_exec it.2 f p it.1) fun _ _ _ => rfl

theorem picturesErased_interruptStep :
    picturesErased (interruptStep (withoutPictures s f p)) = picturesErased (interruptStep s) := by
  unfold interruptStep
  rw [interruptToTake_withoutPictures]
  cases interruptToTake s with
  | none => exact picturesErased_fetchExecute s f p
  | some i =>
    refine picturesErased_andThen (picturesErased_takeInterrupt s f p i) fun m f p => ?_
    rw [params_withoutPictures]
    split
    · rfl
    · exact picturesErased_fetchExecute m f p

theorem picturesErased_stallStep :
    picturesErased (stallStep (withoutPictures s f p)) = picturesErased (stallStep s) := by
  unfold stallStep
  rw [stall_withoutPictures]
  split
  · rfl
  · exact picturesErased_interruptStep s f p

theorem picturesErased_cpuTick :
    picturesErased (cpuTick (withoutPictures s f p)) = picturesErased (cpuTick s) := by
  unfold cpuTick
  rw [halted_withoutPictures, ieReg_withoutPictures, ifReg_withoutPictures]
  split
  · split
    · rfl
    · exact picturesErased_stallStep { s with halted := false } f p
  · exact picturesErased_stallStep s f p

/-! The other units of the tick. -/

theorem picturesErased_memoryTick :
    picturesErased (memoryTick (withoutPictures s f p)) = picturesErased (memoryTick s) := by
  unfold memoryTick
  rw [dmaActive_withoutPictures]
  split
  · exact picturesErased_readThen s f p s.dmaCursor fun _ => rfl
  · rfl

/-- The one writer of the frame buffer: which fault or window line it ends with does not depend on the old rows. -/
theorem picturesErased_renderLine (ly : Nat) :
    picturesErased (renderLine ly (withoutPictures s f p)) = picturesErased (renderLine ly s) := by
  unfold renderLine
  rw [firstPixelFault_withoutPictures]
  cases firstPixelFault s ly (List.range 160) <;> rfl

theorem picturesErased_ppuAtDot (ly : Nat) :
    picturesErased (ppuAtDot ly (withoutPictures s f p)) = picturesErased (ppuAtDot ly s) := by
  unfold ppuAtDot
  rw [dot_withoutPictures]
  split
  · rw [coincidence_withoutPictures, oamSearch_withoutPictures, enterMode_withoutPictures, enterMode_withoutPictures,
      vblank_withoutPictures]
    split
    · rfl
    · split <;> rfl
  · rw [enterMode_withoutPictures, enterMode_withoutPictures]
    split
    · exact picturesErased_renderLine _ f p ly
    · split <;> rfl

theorem picturesErased_ppuTick :
    picturesErased (ppuTick (withoutPictures s f p)) = picturesErased (ppuTick s) := by
  unfold ppuTick
  rw [peek_withoutPictures]
  refine picturesErased_andThen ?_ fun m f p => ?_
  · exact picturesErased_ppuAtDot { s with frameReady := false } f p (s.peek 0xFF44).toNat
  · rw [advanceDot_withoutPictures]
    rfl

/-- The one reader of the frame buffer, which only adds to the frames presented. -/
theorem picturesErased_presentFrame :
    picturesErased (.next (presentFrame (withoutPictures s f p))) = picturesErased (.next (presentFrame s)) := by
  unfold presentFrame
  rw [frameReady_withoutPictures]
  split <;> rfl

theorem picturesErased_laterPhases :
    picturesErased (laterPhases (withoutPictures s f p)) = picturesErased (laterPhases s) := by
  unfold laterPhases
  rw [collaborators_withoutPictures]
  exact picturesErased_andThen (picturesErased_ppuTick _ f p) picturesErased_presentFrame

theorem picturesErased_consoleTick :
    picturesErased (consoleTick (withoutPictures s f p)) = picturesErased (consoleTick s) := by
  unfold consoleTick
  rw [nextDraw_withoutPictures]
  split
  · rfl
  · exact picturesErased_andThen (picturesErased_memoryTick s f p) fun m f p =>
      picturesErased_andThen (picturesErased_cpuTick m f p) picturesErased_laterPhases

end

/-- Settles O59: each phase of the tick, run on two states that differ only in the pictures, ends alike. -/
theorem picturesNeverFeedBack : Obligations.PicturesNeverFeedBack := picturesErased_consoleTick

end Sys2Proof.Machine
end

section
/-! The state's invariant and its writers (10_state.md; 20_memory.md R82 to R91): what a tick can do to the whole
state, said once as the Memory tick's work, then the CPU's, then that of the collaborators, the PPU and the display;
each of the statements about every tick is read off those three parts. -/

namespace Sys2Proof.Machine

open Sys2Proof.Claims

/-! The units besides the CPU. -/

/-- Everything the units besides the CPU lead to from `s`: the CPU's own fields are as before, and what holds of memory,
the DMA engine and the PPU's counters by their rules still holds. -/
structure DeviceEffect (s t : State) : Prop where
  /-- The fields of the CPU, the image's length and the launch parameters are as before. -/
  whole : t = { s with
    mem := t.mem, dmaActive := t.dmaActive, dmaCursor := t.dmaCursor, dot := t.dot, sprites := t.sprites
    spriteTall := t.spriteTall, windowLine := t.windowLine, frames := t.frames, frame := t.frame
    frameReady := t.frameReady, presented := t.presented, draws := t.draws }
  /-- Memory keeps its canonical form. -/
  memWf : Memory.wf s.mem → Memory.wf t.mem
  /-- Memory lists real storage only (R82, R83, R87). -/
  storage : (∀ c ∈ s.mem, Storage s.romBanks c.1) → ∀ c ∈ t.mem, Storage t.romBanks c.1
  /-- The byte stored at 0xFF46 never changes (R56, R90). -/
  dmaByte : t.peek 0xFF46 = s.peek 0xFF46
  /-- The ROM never changes (R82). -/
  rom : ∀ n < 0x8000, t.peek n = s.peek n
  /-- A copy in flight stays inside its 160 bytes (R91). -/
  dmaInside : (s.dmaActive = true → s.dmaCursor.toNat % 0x100 < 0xA0) →
    t.dmaActive = true → t.dmaCursor.toNat % 0x100 < 0xA0
  /-- The dot counter stays inside the line (R63, R431). -/
  dotLe : s.dot ≤ 455 → t.dot ≤ 455
  /-- The sprite list stays inside its 10 places (R63, R437). -/
  spritesLe : s.sprites.length ≤ 10 → t.sprites.length ≤ 10

namespace DeviceEffect

theorem ime {s t : State} (h : DeviceEffect s t) : t.ime = s.ime := by rw [h.whole]
theorem halted {s t : State} (h : DeviceEffect s t) : t.halted = s.halted := by rw [h.whole]
theorem params {s t : State} (h : DeviceEffect s t) : t.params = s.params := by rw [h.whole]
theorem af {s t : State} (h : DeviceEffect s t) : t.af = s.af := by rw [h.whole]
theorem romBanks {s t : State} (h : DeviceEffect s t) : t.romBanks = s.romBanks := by rw [h.whole]
theorem stall {s t : State} (h : DeviceEffect s t) : t.stall = s.stall := by rw [h.whole]

theorem refl (s : State) : DeviceEffect s s :=
  ⟨rfl, id, id, rfl, fun _ _ => rfl, id, id, id⟩

theorem trans {s t u : State} (h : DeviceEffect s t) (k : DeviceEffect t u) : DeviceEffect s u where
  whole := by
    have hw := h.whole
    have kw := k.whole
    rw [hw] at kw
    exact kw
  memWf := k.memWf ∘ h.memWf
  storage := k.storage ∘ h.storage
  dmaByte := k.dmaByte.trans h.dmaByte
  rom n hn := (k.rom n hn).trans (h.rom n hn)
  dmaInside := k.dmaInside ∘ h.dmaInside
  dotLe := k.dotLe ∘ h.dotLe
  spritesLe := k.spritesLe ∘ h.spritesLe

/-- A store in OAM or in a register other than 0xFF46. -/
theorem ofPoke (s : State) (n : Nat) (v : Byte) (hlow : 0xFDFF < n) (hhigh : n < 0x10000) (hd : n ≠ 0xFF46) :
    DeviceEffect s (s.poke n v) where
  whole := rfl
  memWf h := Memory.wf_set h n v
  storage h c hc := by
    rcases Memory.mem_set hc with rfl | hc
    · exact ⟨hhigh, by omega, by omega⟩
    · exact h c hc
  dmaByte := Memory.get_set_ne _ _ (Ne.symm hd)
  rom k hk := Memory.get_set_ne _ _ (by omega)
  dmaInside := id
  dotLe := id
  spritesLe := id

/-- A change of the PPU's counters and the outputs, or of the draws. -/
theorem ofCounters {s t : State}
    (hw : t = { s with
      dot := t.dot, sprites := t.sprites, spriteTall := t.spriteTall, windowLine := t.windowLine, frames := t.frames
      frame := t.frame, frameReady := t.frameReady, presented := t.presented, draws := t.draws })
    (hdot : s.dot ≤ 455 → t.dot ≤ 455) (hsprites : s.sprites.length ≤ 10 → t.sprites.length ≤ 10) :
    DeviceEffect s t := by
  rw [hw]
  exact ⟨rfl, id, id, rfl, fun _ _ => rfl, id, hdot, hsprites⟩

end DeviceEffect

/-- The Memory tick (R91): the byte copied goes to OAM, and the copy ends when the cursor reaches 160. -/
theorem memoryTick_effect {s t : State} (h : memoryTick s = .next t) : DeviceEffect s t := by
  unfold memoryTick at h
  split at h
  · rename_i ha
    obtain ⟨b, -, h⟩ := readThen_eq_next.1 h
    cases h
    have hp : DeviceEffect s (s.poke (0xFE00 + s.dmaCursor.toNat % 0x100) b) :=
      .ofPoke s _ b (by omega) (by omega) (by omega)
    refine { hp with whole := rfl, dmaInside := fun hs ht => ?_ }
    have hs := hs ha
    simp only [dmaCopyByte, Bool.not_eq_true', decide_eq_false_iff_not, BitVec.toNat_add] at ht ⊢
    have h1 : (1 : Word).toNat = 1 := rfl
    omega
  · cases h
    exact .refl s

theorem requestInterrupt_effect (m : Byte) (s : State) : DeviceEffect s (requestInterrupt m s) :=
  .ofPoke s _ _ (by omega) (by omega) (by omega)

theorem inputPhase_effect (d : Option (BitVec 4)) (s : State) : DeviceEffect s (inputPhase d s) := by
  unfold inputPhase
  split
  · exact .refl s
  · split
    · exact .refl s
    · exact (DeviceEffect.ofPoke s _ _ (by omega) (by omega) (by omega)).trans (requestInterrupt_effect _ _)

theorem envAction_effect (e : EnvAction) (s : State) : DeviceEffect s (envAction e s) := by
  cases e with
  | store r v => cases r <;> exact .ofPoke s _ v (by decide) (by decide) (by decide)
  | requestTimer => exact requestInterrupt_effect _ s
  | requestSerial => exact requestInterrupt_effect _ s

theorem envPhase_effect (d : List EnvAction) (s : State) : DeviceEffect s (envPhase d s) := by
  induction d generalizing s with
  | nil => exact .refl s
  | cons e r ih => exact (envAction_effect e s).trans (ih _)

theorem collaborators_effect (s : State) : DeviceEffect s (collaborators s) :=
  ((inputPhase_effect _ s).trans (envPhase_effect _ _)).trans (.ofCounters rfl id id)

theorem enterMode_effect (m : Nat) (s : State) : DeviceEffect s (enterMode m s) := by
  have hp : DeviceEffect s (s.poke 0xFF41 ((s.peek 0xFF41 &&& 0xFC) ||| BitVec.ofNat 8 m)) :=
    .ofPoke s _ _ (by omega) (by omega) (by omega)
  unfold enterMode
  dsimp only
  split
  · exact hp
  · split
    · exact hp.trans (requestInterrupt_effect _ _)
    · exact hp

theorem coincidence_effect (s : State) : DeviceEffect s (coincidence s) := by
  have hp (v : Byte) : DeviceEffect s (s.poke 0xFF41 v) := .ofPoke s _ v (by omega) (by omega) (by omega)
  unfold coincidence
  dsimp only
  split
  · split
    · exact (hp _).trans (requestInterrupt_effect _ _)
    · exact hp _
  · exact hp _

theorem vblank_effect (s : State) : DeviceEffect s (vblank s) :=
  (requestInterrupt_effect 0x01 s).trans (.ofCounters rfl id id)

/-- The search takes at most 10 entries (R437). -/
theorem oamSearch_effect (ly : Nat) (s : State) : DeviceEffect s (oamSearch ly s) :=
  .ofCounters rfl id fun _ => List.length_take_le _ _

theorem renderLine_effect {ly : Nat} {s t : State} (h : renderLine ly s = .next t) : DeviceEffect s t := by
  unfold renderLine at h
  split at h
  · cases h
  · cases h
    exact .ofCounters rfl id id

theorem ppuAtDot_effect {ly : Nat} {s t : State} (h : ppuAtDot ly s = .next t) : DeviceEffect s t := by
  unfold ppuAtDot at h
  split at h
  · have hc := coincidence_effect s
    split at h
    · cases h
      exact (hc.trans (oamSearch_effect ly _)).trans (enterMode_effect 2 _)
    · split at h
      · cases h
        exact (hc.trans (enterMode_effect 1 _)).trans (vblank_effect _)
      · cases h
        exact hc
  · split at h
    · exact (enterMode_effect 3 s).trans (renderLine_effect h)
    · split at h
      · cases h
        exact enterMode_effect 0 s
      · cases h
        exact .refl s

theorem endOfLine_effect (ly : Byte) (s : State) : DeviceEffect s (endOfLine ly s) := by
  have hp (v : Byte) : DeviceEffect s (s.poke 0xFF44 v) := .ofPoke s _ v (by omega) (by omega) (by omega)
  unfold endOfLine
  generalize (if ly = 153 then 0 else ly + 1 : Byte) = next
  dsimp only
  split
  · exact (hp _).trans (.ofCounters rfl id id)
  · exact hp _

/-- The dot after 455 is 0 (R431). -/
theorem advanceDot_effect (ly : Byte) (s : State) : DeviceEffect s (advanceDot ly s) := by
  unfold advanceDot
  split
  · exact (DeviceEffect.ofCounters (t := { s with dot := 0 }) rfl (fun _ => Nat.zero_le _) id).trans
      (endOfLine_effect ly _)
  · refine .ofCounters rfl (fun h => ?_) id
    show s.dot + 1 ≤ 455
    omega

theorem ppuTick_effect {s t : State} (h : ppuTick s = .next t) : DeviceEffect s t := by
  obtain ⟨m, hm, ht⟩ := andThen_eq_next.1 h
  cases ht
  have hr : DeviceEffect s { s with frameReady := false } := .ofCounters rfl id id
  exact (hr.trans (ppuAtDot_effect hm)).trans (advanceDot_effect _ m)

theorem presentFrame_effect (s : State) : DeviceEffect s (presentFrame s) := by
  unfold presentFrame
  split
  · exact .ofCounters rfl id id
  · exact .refl s

theorem laterPhases_effect {s t : State} (h : laterPhases s = .next t) : DeviceEffect s t := by
  obtain ⟨m, hm, ht⟩ := andThen_eq_next.1 h
  cases ht
  exact ((collaborators_effect s).trans (ppuTick_effect hm)).trans (presentFrame_effect m)

/-! The CPU tick. -/

theorem fetch8_effect {s t : State} {b : Byte} (h : fetch8 s = .ok (b, t)) : CpuEffect s t := by
  unfold fetch8 at h
  split at h
  · cases h
    exact pc_effect s _
  · cases h

theorem fetchBytes_effect {n : Nat} {s t : State} {r : List Byte} (h : fetchBytes n s = .ok (r, t)) :
    CpuEffect s t := by
  induction n generalizing s t r with
  | zero => cases h; exact .refl s
  | succ n ih =>
    unfold fetchBytes at h
    split at h
    · cases h
    · rename_i hb
      split at h
      · cases h
      · rename_i hr
        cases h
        exact (fetch8_effect hb).trans (ih hr)

/-- The fetch of an instruction moves PC only (R104, R412). -/
theorem fetchInstr_effect {s t : State} {i : Instr} (h : fetchInstr s = .ok (i, t)) : CpuEffect s t := by
  unfold fetchInstr at h
  split at h
  · cases h
  · rename_i hb
    split at h
    · cases h
    · rename_i hr
      split at h
      · cases h
        exact (fetch8_effect hb).trans (fetchBytes_effect hr)
      · cases h

/-- What a CPU tick from `s` leaves in the stall counter of `t` (R410, R415, R424). -/
inductive StallAfter (s t : State) : Prop where
  /-- The tick is a halted or a stalled one. -/
  | counted (h : t.stall ≤ s.stall)
  /-- The tick ends with a dispatch that takes time. -/
  | dispatched (hd : 0 < s.params.intDispatchTicks) (h : t.stall = s.params.intDispatchTicks - 1)
  /-- The tick executes the row of `i`. -/
  | executed (i : Instr) (b : Bool) (h : t.stall = costTaken s.params i b - s.params.fetchTicks.val)

/-- What a CPU tick leads to from `s`. -/
structure CpuTicked (s t : State) : Prop where
  effect : CpuEffect s t
  stall : StallAfter s t

/-- Step 4 ends with the stall of the row it executed. -/
theorem fetchExecute_ticked {s m t : State} (hs : CpuEffect s m) (h : fetchExecute m = .next t) :
    CpuTicked s t := by
  unfold fetchExecute at h
  split at h
  · cases h
  · rename_i i u hi
    obtain ⟨v, hv, ht⟩ := andThen_eq_next.1 h
    have hsv : CpuEffect s v := (hs.trans (fetchInstr_effect hi)).trans (exec_effect i u v hv)
    cases ht
    refine ⟨hsv.trans (.ofRegs rfl id), .executed i (taken i u) ?_⟩
    rw [← hsv.params]
    rfl

theorem takeInterrupt_effect (i : Source) (s : State) : Effects s (takeInterrupt i s) := by
  have hp (v : Byte) : CpuEffect s (s.poke 0xFF0F v) :=
    .ofPoke s _ v ⟨by omega, by omega, by omega⟩ (by omega) (by omega) (by omega)
  exact Effects.after ((hp _).trans (ime_effect _ false)) (callSub_effect _ _)

theorem interruptStep_ticked {s m t : State} (hs : CpuEffect s m) (h : interruptStep m = .next t) :
    CpuTicked s t := by
  unfold interruptStep at h
  split at h
  · exact fetchExecute_ticked hs h
  · rename_i i _
    obtain ⟨u, hu, h⟩ := andThen_eq_next.1 h
    have hsu : CpuEffect s u := hs.trans (takeInterrupt_effect i m u hu)
    split at h
    · rename_i hd
      cases h
      rw [hsu.params] at hd
      refine ⟨hsu.trans (.ofRegs rfl id), .dispatched hd ?_⟩
      rw [← hsu.params]
    · exact fetchExecute_ticked hsu h

theorem stallStep_ticked {s m t : State} (hs : CpuEffect s m) (hst : m.stall = s.stall)
    (h : stallStep m = .next t) : CpuTicked s t := by
  unfold stallStep at h
  split at h
  · cases h
    refine ⟨hs.trans (.ofRegs rfl id), .counted ?_⟩
    rw [← hst]
    exact Nat.sub_le _ _
  · exact interruptStep_ticked hs h

theorem cpuTick_ticked {s t : State} (h : cpuTick s = .next t) : CpuTicked s t := by
  unfold cpuTick at h
  split at h
  · split at h
    · cases h
      exact ⟨.ofRegs rfl id, .counted le_rfl⟩
    · exact stallStep_ticked (halted_effect s false) rfl h
  · exact stallStep_ticked (.refl s) rfl h

/-- A console tick is the Memory tick, then the CPU tick, then the later phases (R401). -/
theorem step_phases {s t : State} (h : step s = .next t) :
    ∃ m u, DeviceEffect s m ∧ CpuTicked m u ∧ DeviceEffect u t := by
  unfold step consoleTick at h
  split at h
  · cases h
  · obtain ⟨m, hm, h⟩ := andThen_eq_next.1 h
    obtain ⟨u, hu, h⟩ := andThen_eq_next.1 h
    exact ⟨m, u, memoryTick_effect hm, cpuTick_ticked hu, laterPhases_effect h⟩

/-! The invariant. -/

/-- Settles O54: nothing is listed or in flight at reset, and every counter is 0. -/
theorem resetInvariant : Obligations.ResetInvariant where
  memWf := ⟨List.Pairwise.nil, nofun⟩
  memStorage := nofun
  flagsLow := rfl
  dotLe := Nat.zero_le _
  spritesLe := Nat.zero_le _
  banksPos := Nat.le_succ 1
  dmaInside := nofun
  stallLe _ := Nat.zero_le _

theorem DeviceEffect.inv {s t : State} (h : DeviceEffect s t) (hs : s.Inv) : t.Inv where
  memWf := h.memWf hs.memWf
  memStorage := h.storage hs.memStorage
  flagsLow := by rw [h.af]; exact hs.flagsLow
  dotLe := h.dotLe hs.dotLe
  spritesLe := h.spritesLe hs.spritesLe
  banksPos := by rw [h.romBanks]; exact hs.banksPos
  dmaInside := h.dmaInside hs.dmaInside
  stallLe := by rw [h.params, h.stall]; exact hs.stallLe

theorem mainCosts_le : ∀ c ∈ mainCosts, c.1 ≤ 24 ∧ c.2 ≤ 24 := by
  simp only [mainCosts, List.forall_mem_append]
  decide

theorem cbCosts_le : ∀ c ∈ cbCosts, c.1 ≤ 24 ∧ c.2 ≤ 24 := by
  unfold cbCosts
  simp only [List.forall_mem_append]
  decide

/-- A bound on every row of a cost grid is one on every lookup in it. -/
theorem getD_cost_le {l : List (Nat × Nat)} (h : ∀ c ∈ l, c.1 ≤ 24 ∧ c.2 ≤ 24) (n : Nat) :
    (l.getD n (0, 0)).1 ≤ 24 ∧ (l.getD n (0, 0)).2 ≤ 24 := by
  by_cases hn : n < l.length
  · rw [List.getD_eq_getElem l _ hn]
    exact h _ (List.getElem_mem hn)
  · rw [List.getD_eq_default l _ (by omega)]
    decide

/-- No row of the two cost grids is above 24 (R132, R133). -/
theorem defaultCost_le (key : Nat) : (defaultCost key).1 ≤ 24 ∧ (defaultCost key).2 ≤ 24 := by
  unfold defaultCost
  split
  · exact getD_cost_le mainCosts_le _
  · exact getD_cost_le cbCosts_le _

/-- Under the default parameters no row costs more than 24 ticks (R131). -/
theorem costTaken_default_le (i : Instr) (b : Bool) : costTaken {} i b ≤ 24 := by
  obtain ⟨h1, h2⟩ := defaultCost_le (opcodeKey (encode i))
  cases b
  · exact h2
  · exact h1

theorem CpuTicked.stall_le {s t : State} (h : CpuTicked s t) (hp : s.params = {}) (hs : s.stall ≤ 23) :
    t.stall ≤ 23 := by
  cases h.stall with
  | counted h => exact h.trans hs
  | dispatched hd => rw [hp] at hd; cases hd
  | executed i b h =>
    rw [h, hp]
    exact Nat.sub_le_sub_right (costTaken_default_le i b) 1

theorem CpuTicked.inv {s t : State} (h : CpuTicked s t) (hs : s.Inv) : t.Inv where
  memWf := h.effect.memWf hs.memWf
  memStorage := h.effect.storage hs.memStorage
  flagsLow := h.effect.flagsLow hs.flagsLow
  dotLe := by rw [h.effect.dot]; exact hs.dotLe
  spritesLe := by rw [h.effect.sprites]; exact hs.spritesLe
  banksPos := by rw [h.effect.romBanks]; exact hs.banksPos
  dmaInside := h.effect.dmaInside hs.dmaInside
  stallLe hp := by
    rw [h.effect.params] at hp
    exact h.stall_le hp (hs.stallLe hp)

/-- Settles O55: the three parts of a tick keep the invariant one after the other. -/
theorem stepKeepsInvariant : Obligations.StepKeepsInvariant := by
  intro s t hs h
  obtain ⟨m, u, hm, hu, ht⟩ := step_phases h
  exact ht.inv (hu.inv (hm.inv hs))

/-- Settles O57: each of the three parts of a tick keeps the ROM under `ignore` and the byte at 0xFF46, and the CPU's
keeps JOYP's low nibble. -/
theorem protectedBytes : Obligations.ProtectedBytes := by
  intro s t
  refine ⟨fun h => ?_, fun h => (cpuTick_ticked h).effect.joypLow⟩
  obtain ⟨m, u, hm, ⟨hu, -⟩, ht⟩ := step_phases h
  refine ⟨fun hp n hn => ?_, ?_⟩
  · rw [← hm.params] at hp
    rw [ht.rom n hn, hu.rom hp n hn, hm.rom n hn]
  · rw [ht.dmaByte, hu.dmaByte, hm.dmaByte]

/-! The writers of IME and `halted` (R44, R45). -/

/-- Whatever state an outcome ends in has IME and `halted` as `s` has them. -/
def KeepsImeHalted (s : State) (o : Result) : Prop := ∀ t, o = .next t → t.ime = s.ime ∧ t.halted = s.halted

namespace KeepsImeHalted

@[simp] theorem next {s t : State} : KeepsImeHalted s (.next t) ↔ t.ime = s.ime ∧ t.halted = s.halted :=
  ⟨fun h => h t rfl, fun h u hu => by cases hu; exact h⟩

@[simp] theorem refused {s : State} {r : Refusal} : KeepsImeHalted s (.refused r) := nofun

theorem andThen {s : State} {o : Result} {k : State → Result} (ho : KeepsImeHalted s o)
    (hk : ∀ m, KeepsImeHalted m (k m)) : KeepsImeHalted s (andThen o k) := by
  intro t ht
  obtain ⟨m, hm, ht⟩ := andThen_eq_next.1 ht
  obtain ⟨hime, hhalted⟩ := ho m hm
  rw [← hime, ← hhalted]
  exact hk m t ht

theorem readThen {s m : State} {a : Word} {k : Byte → Result} (hk : ∀ v, KeepsImeHalted s (k v)) :
    KeepsImeHalted s (readThen a m k) := by
  intro t ht
  obtain ⟨v, -, ht⟩ := readThen_eq_next.1 ht
  exact hk v t ht

theorem readOperandThen {s : State} {o : Operand8} {k : Byte → Result} (hk : ∀ v, KeepsImeHalted s (k v)) :
    KeepsImeHalted s (readOperandThen o s k) := by
  intro t ht
  obtain ⟨v, -, ht⟩ := readOperandThen_eq_next.1 ht
  exact hk v t ht

end KeepsImeHalted

section
variable (s : State)

@[simp] theorem memWrite_keepsImeHalted (a : Word) (v : Byte) : KeepsImeHalted s (memWrite a v s) := by
  intro t ht
  obtain ⟨-, rfl⟩ := memWrite_eq_next.1 ht
  rw [stored_whole]
  exact ⟨rfl, rfl⟩

@[simp] theorem write8_keepsImeHalted (o : Operand8) (v : Byte) : KeepsImeHalted s (write8 o v s) := by
  cases o with
  | reg r => simp [write8]
  | atHl => exact memWrite_keepsImeHalted s s.hl v

@[simp] theorem push16_keepsImeHalted (w : Word) : KeepsImeHalted s (push16 w s) :=
  .andThen (memWrite_keepsImeHalted { s with sp := s.sp - 1 } _ _) fun m =>
    memWrite_keepsImeHalted { m with sp := m.sp - 1 } _ _

@[simp] theorem callSub_keepsImeHalted (a : Word) : KeepsImeHalted s (callSub a s) :=
  .andThen (push16_keepsImeHalted s _) fun _ => by simp

theorem pop16_keepsImeHalted {k : Word → State → Result} (hk : ∀ w m, KeepsImeHalted m (k w m)) :
    KeepsImeHalted s (pop16 s k) :=
  .readThen fun _ => .readThen fun _ => hk _ { s with sp := s.sp + 1 + 1 }

@[simp] theorem popTo_keepsImeHalted (r : Reg16) : KeepsImeHalted s (popTo r s) :=
  pop16_keepsImeHalted s fun _ _ => by simp

@[simp] theorem retSub_keepsImeHalted : KeepsImeHalted s (retSub s) :=
  pop16_keepsImeHalted s fun _ _ => by simp

@[simp] theorem loadFrom_keepsImeHalted (r : Reg8) (a : Word) : KeepsImeHalted s (loadFrom r a s) :=
  .readThen fun _ => by simp

@[simp] theorem aluOn_ime (op : AluOp) (b : Byte) : (aluOn op b s).ime = s.ime := by
  cases op <;> simp [aluOn]

@[simp] theorem aluOn_halted (op : AluOp) (b : Byte) : (aluOn op b s).halted = s.halted := by
  cases op <;> simp [aluOn]

@[simp] theorem aluOperand_keepsImeHalted (op : AluOp) (o : Operand8) : KeepsImeHalted s (aluOperand op o s) :=
  .readOperandThen fun _ => by simp

@[simp] theorem stepOperand_keepsImeHalted (f : Byte → Flags → Byte × Flags) (o : Operand8) :
    KeepsImeHalted s (stepOperand f o s) :=
  .readOperandThen fun _ => .andThen (write8_keepsImeHalted s o _) fun _ => by simp

@[simp] theorem rotateOperand_keepsImeHalted (op : RotOp) (o : Operand8) :
    KeepsImeHalted s (rotateOperand op o s) :=
  .readOperandThen fun _ => .andThen (write8_keepsImeHalted s o _) fun _ => by simp

@[simp] theorem bitOperand_keepsImeHalted (b : Nat) (o : Operand8) : KeepsImeHalted s (bitOperand b o s) :=
  .readOperandThen fun _ => by simp

@[simp] theorem mapOperand_keepsImeHalted (f : Byte → Byte) (o : Operand8) :
    KeepsImeHalted s (mapOperand f o s) :=
  .readOperandThen fun _ => write8_keepsImeHalted s o _

@[simp] theorem jumpIf_keepsImeHalted (cc : Cond) (a : Word) : KeepsImeHalted s (jumpIf cc a s) := by
  unfold jumpIf
  split <;> simp

@[simp] theorem callIf_keepsImeHalted (cc : Cond) (a : Word) : KeepsImeHalted s (callIf cc a s) := by
  unfold callIf
  split <;> simp

@[simp] theorem retIf_keepsImeHalted (cc : Cond) : KeepsImeHalted s (retIf cc s) := by
  unfold retIf
  split <;> simp

@[simp] theorem selectCb_keepsImeHalted (b : Byte) : KeepsImeHalted s (selectCb b s) := by
  unfold selectCb
  dsimp only
  split <;> simp

/-- No instruction but DI, EI, RETI and HALT writes IME or `halted`. -/
theorem exec_keepsImeHalted {i : Instr} (hdi : i ≠ .di) (hei : i ≠ .ei) (hreti : i ≠ .reti) (hhalt : i ≠ .halt) :
    KeepsImeHalted s (exec i s) := by
  cases i
  case di => exact absurd rfl hdi
  case ei => exact absurd rfl hei
  case reti => exact absurd rfl hreti
  case halt => exact absurd rfl hhalt
  case ldAtA16Sp a =>
    exact .andThen (memWrite_keepsImeHalted s a _) fun m => memWrite_keepsImeHalted m _ _
  case ldAtHlIncA | ldAtHlDecA =>
    exact .andThen (memWrite_keepsImeHalted s s.hl _) fun _ => by simp
  case ldAAtHlInc | ldAAtHlDec =>
    exact .andThen (loadFrom_keepsImeHalted s .a s.hl) fun _ => by simp
  all_goals simp [copyReg, addHl, spRelative, logIllegal, rotateA]

end

/-- The writers of IME and `halted` among the instructions (R44, R45). -/
theorem exec_imeHalted (i : Instr) (s t : State) (h : exec i s = .next t) :
    t.ime = (if i = .di then false else if i = .ei ∨ i = .reti then true else s.ime) ∧
      t.halted = (if i = .halt then true else s.halted) := by
  by_cases hdi : i = .di
  · subst hdi
    cases h
    simp
  by_cases hei : i = .ei
  · subst hei
    cases h
    simp
  by_cases hreti : i = .reti
  · subst hreti
    obtain ⟨m, hm, ht⟩ := andThen_eq_next.1 h
    cases ht
    simpa using (retSub_keepsImeHalted s m hm).2
  by_cases hhalt : i = .halt
  · subst hhalt
    cases h
    simp
  · simpa [hdi, hei, hreti, hhalt] using exec_keepsImeHalted s hdi hei hreti hhalt t h

/-- A halted CPU leaves the halt only for a pending and enabled interrupt (R409). -/
theorem cpuTick_halted_of_no_request {s t : State} (h : cpuTick s = .next t) (hs : s.halted = true)
    (hr : s.ieReg &&& s.ifReg = 0) : t.halted = true := by
  unfold cpuTick at h
  rw [if_pos hs, if_pos hr] at h
  cases h
  exact hs

/-- Settles O58: the instructions by their shared operations, the other units by what they leave unchanged. -/
theorem imeAndHaltedWriters : Obligations.ImeAndHaltedWriters := by
  refine ⟨exec_imeHalted, fun s t h => ?_, fun s => ?_, fun s t h => ?_, fun i s t h => ?_, fun s t h hs ht hr => ?_⟩
  · exact ⟨(memoryTick_effect h).ime, (memoryTick_effect h).halted⟩
  · exact ⟨(collaborators_effect s).ime, (collaborators_effect s).halted⟩
  · exact ⟨(ppuTick_effect h).ime, (ppuTick_effect h).halted⟩
  · exact callSub_keepsImeHalted _ _ t h
  · exact absurd (cpuTick_halted_of_no_request h hs hr) (by simp [ht])

/-! The register file (R32, R33, R39). -/

/-- The mask of AF is that of F, its low byte (R33). -/
theorem joinBytes_and_FFF0 (a b : Byte) : joinBytes a b &&& 0xFFF0 = joinBytes a (b &&& 0xF0) := by
  rw [← joinBytes_hiByte_loByte (joinBytes a b &&& 0xFFF0)]
  simp

theorem reg8_f_and_F0 (s : State) : s.reg8 .f &&& 0xF0 = s.reg8 .f := by
  simp [State.reg8, State.reg16, BitVec.and_assoc]

/-- A write of A keeps the F that is read (R32, R33). -/
theorem setReg8_a_af (s : State) (v : Byte) : (s.setReg8 .a v).af = joinBytes v (s.reg8 .f) := by
  rw [← reg8_f_and_F0, ← joinBytes_and_FFF0]
  rfl

/-- A write of F keeps A and masks the byte (R32, R33). -/
theorem setReg8_f_af (s : State) (v : Byte) : (s.setReg8 .f v).af = joinBytes (s.reg8 .a) (v &&& 0xF0) := by
  rw [← joinBytes_and_FFF0]
  rfl

/-- Bits 3 to 0 of AF read zero (R33). -/
theorem reg16_af_low (s : State) : s.reg16 .af &&& 0x000F = 0 := by
  simp [State.reg16, BitVec.and_assoc]

/-- Bits 3 to 0 of F read zero (R33). -/
theorem reg8_f_low (s : State) : s.reg8 .f &&& 0x0F = 0 := by
  rw [← reg8_f_and_F0, BitVec.and_assoc]
  simp

theorem setFlags_written (s : State) (g : Flags) : FlagsWritten g s (s.setFlags g) :=
  ⟨setFlags_whole s g, reg8_setFlags s g nofun, flags_setFlags s g⟩

/-- Settles O48: each register is a half of its pair, F is masked as AF is, and the flags read are those written. -/
theorem registerFile : Obligations.RegisterFile := by
  intro s v w
  have hpair (x : Word) : x = joinBytes (hiByte x) (loByte x) := (joinBytes_hiByte_loByte x).symm
  refine ⟨rfl, rfl, rfl, rfl, rfl, rfl, setReg8_a_af s v, setReg8_f_af s v, fun r => reg16_setReg16_self s r w,
    fun r q => reg16_setReg16_ne s w, ⟨reg16_af_low s, reg8_f_low s⟩,
    ⟨hpair _, hpair s.bc, hpair s.de, hpair s.hl⟩, fun g => ?_⟩
  have hf := flags_setFlags s g
  exact ⟨setFlags_written s g, congrArg Flags.z hf, congrArg Flags.n hf, congrArg Flags.h hf, congrArg Flags.c hf⟩

end Sys2Proof.Machine
end

section
/-! The address space and the DMA engine (20_memory.md R84 to R91): what a read gives, what a write leaves at every
address, and the copy of a page as the Memory ticks make it, byte by byte. -/

namespace Sys2Proof.Machine

open Sys2Proof.Claims

/-! A byte after a direct store. -/

@[simp] theorem peek_poke_self (s : State) (n : Nat) (v : Byte) : (s.poke n v).peek n = v :=
  Memory.get_set_self s.mem n v

theorem peek_poke_ne (s : State) {n k : Nat} (v : Byte) (h : k ≠ n) : (s.poke n v).peek k = s.peek k :=
  Memory.get_set_ne s.mem v h

/-! Reads (R84, R87). -/

theorem byteAt_of_readable {s : State} {a : Word} (h : Readable s a) : byteAt a s = some (s.peek (mirror a).toNat) := by
  unfold byteAt
  rw [memRead_ok h]
  rfl

/-- What is read at an address depends on the length of the image and on the one cell the mirror leads to. -/
theorem byteAt_congr {s t : State} {a : Word} (hb : t.romBanks = s.romBanks)
    (hp : t.peek (mirror a).toNat = s.peek (mirror a).toNat) : byteAt a t = byteAt a s := by
  by_cases h : Readable s a
  · have h' : Readable t a := by
      unfold Readable at h ⊢
      rw [hb]
      exact h
    rw [byteAt_of_readable h, byteAt_of_readable h', hp]
  · have h' : ¬Readable t a := by
      unfold Readable at h ⊢
      rw [hb]
      exact h
    unfold byteAt
    rw [memRead_error h, memRead_error h']
    rfl

/-- Two addresses of one cell are both readable or both not. -/
theorem readable_congr_mirror {s : State} {a b : Word} (h : mirror b = mirror a) : Readable s b ↔ Readable s a := by
  have hm (c : Word) : Readable s (mirror c) ↔ Readable s c := by
    unfold Readable
    rw [mirror_toNat]
    split <;> omega
  rw [← hm b, h, hm a]

/-- Settles O32: an address is readable or not, and a readable one is mirrored or stands for itself. -/
theorem memoryRead : Obligations.MemoryRead := by
  intro s a
  refine ⟨fun hrom hin => ?_, fun hrom hout => ?_, fun hhigh hplain => ?_, fun hlo hhi => ?_, fun hbanks => ?_⟩
  · rw [memRead_ok (.inr hin), mirror_of_lt a (by omega)]
  · have h : ¬Readable s a := by unfold Readable; omega
    rw [memRead_error h, romIndex_eq a hrom]
    rfl
  · rw [memRead_ok (.inl hhigh), mirror_toNat, if_neg (by omega)]
  · rw [memRead_ok (.inl (by omega)), mirror_toNat, if_pos ⟨hlo, hhi⟩]
  · exact ⟨_, memRead_ok (readable_of_banks a hbanks)⟩

/-! Writes (R85 to R90). -/

/-- A store in the cell of `a` leaves every byte of another cell. -/
theorem byteAt_poke_ne (s : State) {a b : Word} (v : Byte) (h : mirror b ≠ mirror a) :
    byteAt b (s.poke (mirror a).toNat v) = byteAt b s :=
  byteAt_congr rfl (peek_poke_ne s v fun hn => h (BitVec.eq_of_toNat_eq hn))

/-- A store in the cell of `a` is read at every address of that cell. -/
theorem byteAt_poke_self {s : State} {a b : Word} (v : Byte) (ha : Readable s a) (h : mirror b = mirror a) :
    byteAt b (s.poke (mirror a).toNat v) = some v := by
  have hb : Readable (s.poke (mirror a).toNat v) b := (readable_congr_mirror h).2 ha
  rw [byteAt_of_readable hb, h, peek_poke_self]

/-- The cursor of a copy just started stands at the page of `v` (R90). -/
theorem joinBytes_zero (v : Byte) : joinBytes v 0x00 = BitVec.ofNat 16 (v.toNat * 0x100) := by
  apply BitVec.eq_of_toNat_eq
  have hv := v.isLt
  rw [joinBytes_toNat, BitVec.toNat_ofNat]
  simp
  omega

/-- What a write stores at `a`: JOYP takes the high nibble only (R85, R89). -/
def byteToStore (s : State) (a : Word) (v : Byte) : Byte :=
  if a = 0xFF00 then (v &&& 0xF0) ||| (s.peek 0xFF00 &&& 0x0F) else v

theorem stored_of_ignored {s : State} {a : Word} (v : Byte) (ha : a.toNat < 0x8000)
    (hp : s.params.romWritePolicy = .ignore) : s.stored a v = s := by
  unfold State.stored
  rw [if_pos ha, hp]

theorem stored_dma (s : State) (v : Byte) : s.stored 0xFF46 v = dmaStart v s := rfl

/-- Every write but an ignored one and that of the DMA register is a store in the cell of its address. -/
theorem stored_of_cell {s : State} {a : Word} (v : Byte) (hp : a.toNat < 0x8000 → s.params.romWritePolicy = .store)
    (hd : a ≠ 0xFF46) : s.stored a v = s.poke (mirror a).toNat (byteToStore s a v) := by
  unfold State.stored byteToStore
  by_cases ha : a.toNat < 0x8000
  · have hj : a ≠ 0xFF00 := by rintro rfl; exact absurd ha (by decide)
    rw [if_pos ha, hp ha, if_neg hj, mirror_of_lt a (by omega)]
  · by_cases hj : a = 0xFF00
    · subst hj
      rfl
    · have hj' : a.toNat ≠ 0xFF00 := fun h => hj (BitVec.eq_of_toNat_eq h)
      have hd' : a.toNat ≠ 0xFF46 := fun h => hd (BitVec.eq_of_toNat_eq h)
      rw [if_neg ha, if_neg hj', if_neg hd', if_neg hj]

theorem byteStored_of_ignored {s : State} {a : Word} (v : Byte) (ha : a.toNat < 0x8000)
    (hp : s.params.romWritePolicy = .ignore) : ByteStored a v s s where
  whole := rfl
  frame _ _ := rfl
  plain h := absurd ha (by omega)
  joyp h := absurd ha (by rw [h]; decide)
  dma h := absurd ha (by rw [h]; decide)
  noDma _ := ⟨rfl, rfl⟩
  romIgnored _ _ := rfl
  romStored _ h := by rw [hp] at h; cases h

theorem byteStored_dmaStart (s : State) (v : Byte) : ByteStored 0xFF46 v s (dmaStart v s) where
  whole := rfl
  frame _ _ := byteAt_congr rfl rfl
  plain _ _ h := absurd rfl h
  joyp h := absurd h (by decide)
  dma _ := by rw [← joinBytes_zero]; rfl
  noDma h := absurd rfl h
  romIgnored h := absurd h (by decide)
  romStored h := absurd h (by decide)

theorem byteStored_poke {s : State} {a : Word} (v : Byte) (ha : Readable s a)
    (hp : a.toNat < 0x8000 → s.params.romWritePolicy = .store) (hd : a ≠ 0xFF46) :
    ByteStored a v s (s.poke (mirror a).toNat (byteToStore s a v)) where
  whole := rfl
  frame _ h := byteAt_poke_ne s _ h
  plain _ hj _ b hb := by rw [byteAt_poke_self _ ha hb, byteToStore, if_neg hj]
  joyp hj := by rw [byteAt_poke_self _ ha rfl, byteToStore, if_pos hj]
  dma h := absurd h hd
  noDma _ := ⟨rfl, rfl⟩
  romIgnored h hi := by rw [hp h] at hi; cases hi
  romStored h _ := by
    have hj : a ≠ 0xFF00 := by rintro rfl; exact absurd h (by decide)
    rw [byteAt_poke_self _ ha rfl, byteToStore, if_neg hj]

/-- A write that can be made is ignored, starts a copy, or stores one byte. -/
theorem stored_byteStored {s : State} {a : Word} (v : Byte) (hw : Writable s a) : ByteStored a v s (s.stored a v) := by
  by_cases hi : a.toNat < 0x8000 ∧ s.params.romWritePolicy = .ignore
  · obtain ⟨ha, hp⟩ := hi
    rw [stored_of_ignored v ha hp]
    exact byteStored_of_ignored v ha hp
  by_cases hd : a = 0xFF46
  · subst hd
    rw [stored_dma]
    exact byteStored_dmaStart s v
  have hp : a.toNat < 0x8000 → s.params.romWritePolicy = .store := by
    intro ha
    cases h : s.params.romWritePolicy with
    | ignore => exact absurd ⟨ha, h⟩ hi
    | store => rfl
  have ha : Readable s a := by
    unfold Readable
    rcases hw with h | h | h
    · exact .inl h
    · exact .inl (by by_contra hlt; exact hi ⟨by omega, h⟩)
    · exact .inr h
  rw [stored_of_cell v hp hd]
  exact byteStored_poke v ha hp hd

/-- A write that cannot be made is one under `store` at a ROM address the image lacks (R86). -/
theorem not_writable_iff {s : State} {a : Word} : ¬Writable s a ↔
    s.params.romWritePolicy = .store ∧ s.romBanks * 0x4000 ≤ a.toNat ∧ a.toNat < 0x8000 := by
  unfold Writable
  cases s.params.romWritePolicy <;> simp
  omega

/-- Settles O33: the state a write leaves is `State.stored`, and a write that cannot be made is `memWrite_fault`. -/
theorem memoryWrite : Obligations.MemoryWrite := by
  intro s a v
  refine ⟨fun hw => ⟨_, memWrite_next v hw, stored_byteStored v hw⟩, fun hw => ?_⟩
  obtain ⟨hp, hout, hrom⟩ := not_writable_iff.1 hw
  refine ⟨hp, hout, hrom, ?_⟩
  rw [memWrite_fault v hw, romIndex_eq a hrom]
  rfl

/-! The Memory tick (R91). -/

theorem memoryTick_idle {s : State} (h : s.dmaActive = false) : memoryTick s = .next s := by
  unfold memoryTick
  rw [h]
  rfl

theorem memoryTick_active {s : State} (h : s.dmaActive = true) :
    memoryTick s = readThen s.dmaCursor s fun b => .next (dmaCopyByte b s) := if_pos h

theorem dmaCopyByte_peek_self (b : Byte) (s : State) :
    (dmaCopyByte b s).peek (0xFE00 + s.dmaCursor.toNat % 0x100) = b := peek_poke_self s _ b

theorem dmaCopyByte_peek_ne (b : Byte) (s : State) {n : Nat} (h : n ≠ 0xFE00 + s.dmaCursor.toNat % 0x100) :
    (dmaCopyByte b s).peek n = s.peek n := peek_poke_ne s b h

theorem dmaCopyByte_dmaCursor (b : Byte) (s : State) : (dmaCopyByte b s).dmaCursor = s.dmaCursor + 1 := rfl

theorem dmaCopyByte_dmaActive (b : Byte) (s : State) :
    (dmaCopyByte b s).dmaActive = decide ((s.dmaCursor + 1).toNat % 0x100 ≠ 0xA0) := (decide_not ..).symm

/-- Settles O34: the tick is idle, copies the byte it reads, or ends in the fault of the read. -/
theorem memoryTickCopiesOneByte : Obligations.MemoryTickCopiesOneByte := by
  intro s
  refine ⟨memoryTick_idle, fun ha b hb => ⟨dmaCopyByte b s, ?_, rfl, dmaCopyByte_peek_self b s,
    fun n => dmaCopyByte_peek_ne b s, dmaCopyByte_dmaActive b s⟩, fun ha f hf => ?_⟩
  · rw [memoryTick_active ha, readThen_ok _ hb]
  · rw [memoryTick_active ha, readThen_error _ hf]

/-! The whole copy (R91). -/

/-- One Memory tick more, at the end of a run of them. -/
theorem memoryTicks_succ (n : Nat) (s : State) :
    memoryTicks (n + 1) s = andThen (memoryTicks n s) memoryTick := by
  induction n generalizing s with
  | zero =>
    show andThen (memoryTick s) .next = memoryTick s
    cases memoryTick s <;> rfl
  | succ n ih =>
    rw [memoryTicks, memoryTicks]
    cases memoryTick s with
    | next m => exact ih m
    | fault f => rfl
    | refused r => rfl

/-- `t` stands `n` bytes into the copy of page `v` started in `s`. -/
structure CopiedBytes (v : Byte) (n : Nat) (s t : State) : Prop where
  banks : t.romBanks = s.romBanks
  active : t.dmaActive = decide (n ≠ 160)
  cursor : t.dmaCursor.toNat = v.toNat * 0x100 + n
  copied : ∀ k < n, some (t.peek (0xFE00 + k)) = byteAt (BitVec.ofNat 16 (v.toNat * 0x100 + k)) s
  others : ∀ m, m < 0xFE00 ∨ 0xFE00 + n ≤ m → t.peek m = s.peek m

/-- The cell that byte `n` of a page is read from is not among the `n` OAM cells written before it, also where the page
is OAM's own. -/
theorem source_not_overwritten {a : Word} {v : Byte} {n : Nat} (hn : n < 160) (ha : a.toNat = v.toNat * 0x100 + n) :
    (mirror a).toNat < 0xFE00 ∨ 0xFE00 + n ≤ (mirror a).toNat := by
  rw [mirror_toNat]
  split <;> omega

/-- The next tick copies the next byte, as a read of it gave at the start. -/
theorem CopiedBytes.tick {v : Byte} {n : Nat} {s t : State} (hs : 2 ≤ s.romBanks) (hn : n < 160)
    (h : CopiedBytes v n s t) : ∃ u, memoryTick t = .next u ∧ CopiedBytes v (n + 1) s u := by
  obtain ⟨hbanks, hactive, hcursor, hcopied, hothers⟩ := h
  have ha : t.dmaActive = true := by rw [hactive]; exact decide_eq_true (by omega)
  have hr : Readable t t.dmaCursor := readable_of_banks _ (by rw [hbanks]; exact hs)
  have hc : t.dmaCursor = BitVec.ofNat 16 (v.toNat * 0x100 + n) := by
    rw [← hcursor, BitVec.ofNat_toNat, BitVec.setWidth_eq]
  have hsource : some (t.peek (mirror t.dmaCursor).toNat) = byteAt t.dmaCursor s := by
    rw [← byteAt_of_readable hr]
    exact byteAt_congr hbanks (hothers _ (source_not_overwritten hn hcursor))
  have hv := v.isLt
  have hcell : 0xFE00 + t.dmaCursor.toNat % 0x100 = 0xFE00 + n := by omega
  have hnext : (t.dmaCursor + 1).toNat = v.toNat * 0x100 + (n + 1) := by
    rw [BitVec.toNat_add, hcursor]
    simp
    omega
  generalize hb : t.peek (mirror t.dmaCursor).toNat = b at hsource
  have hself := dmaCopyByte_peek_self b t
  have hne {m : Nat} (hm : m ≠ 0xFE00 + n) : (dmaCopyByte b t).peek m = t.peek m :=
    dmaCopyByte_peek_ne b t (by rw [hcell]; exact hm)
  rw [hcell] at hself
  refine ⟨dmaCopyByte b t, ?_, hbanks, ?_, hnext, fun k hk => ?_, fun m hm => ?_⟩
  · rw [memoryTick_active ha, readThen_ok _ (memRead_eq_ok.2 ⟨hr, hb⟩)]
  · rw [dmaCopyByte_dmaActive, hnext]
    exact decide_eq_decide.2 (by omega)
  · by_cases hkn : k = n
    · subst hkn
      rw [hself, hsource, hc]
    · rw [hne (by omega)]
      exact hcopied k (by omega)
  · rw [hne (by omega)]
    exact hothers m (by omega)

/-- A copy just started runs through its first `n` bytes. -/
theorem memoryTicks_copiedBytes {s : State} {v : Byte} (hs : 2 ≤ s.romBanks) (ha : s.dmaActive = true)
    (hc : s.dmaCursor = BitVec.ofNat 16 (v.toNat * 0x100)) {n : Nat} (hn : n ≤ 160) :
    ∃ t, memoryTicks n s = .next t ∧ CopiedBytes v n s t := by
  induction n with
  | zero =>
    have hv := v.isLt
    have hcursor : s.dmaCursor.toNat = v.toNat * 0x100 + 0 := by
      rw [hc, BitVec.toNat_ofNat]
      omega
    exact ⟨s, rfl, rfl, ha, hcursor, nofun, fun _ _ => rfl⟩
  | succ n ih =>
    obtain ⟨t, ht, h⟩ := ih (by omega)
    obtain ⟨u, hu, h⟩ := h.tick hs (by omega)
    rw [memoryTicks_succ, ht]
    exact ⟨u, hu, h⟩

/-- Settles O35: after `n` ticks `n` bytes are copied, and the copy ends with byte 160. -/
theorem dmaCopiesPageInto160Ticks : Obligations.DmaCopiesPageInto160Ticks := by
  intro s v hs ha hc
  refine ⟨fun n hn => ?_, ?_⟩
  · obtain ⟨t, ht, h⟩ := memoryTicks_copiedBytes hs ha hc (Nat.le_of_lt hn)
    exact ⟨t, ht, by rw [h.active]; exact decide_eq_true (by omega)⟩
  · obtain ⟨t, ht, h⟩ := memoryTicks_copiedBytes hs ha hc le_rfl
    exact ⟨t, ht, h.active, h.copied, fun n hn => h.others n (by omega)⟩

end Sys2Proof.Machine
end

section
/-! The cartridge load (20_memory.md R82; 60_exceptions.md R455; 70_reset_and_hazards.md R503): the cells of an image,
and what is read of the ROM and of the high region after a launch. -/

namespace Sys2Proof.Machine

open Sys2Proof.Claims

/-! Memory of two parts. -/

theorem Memory.get_of_forall_ne {m : List Host.Cell} {n : Nat} (h : ∀ c ∈ m, c.1 ≠ n) : Memory.get m n = 0 := by
  induction m with
  | nil => rfl
  | cons c r ih =>
    obtain ⟨k, v⟩ := c
    obtain ⟨hk, hr⟩ := List.forall_mem_cons.1 h
    rw [Memory.get, if_neg hk, ih hr]

/-- Cells of other addresses in front do not matter. -/
theorem Memory.get_append_right {l m : List Host.Cell} {n : Nat} (h : ∀ c ∈ l, c.1 ≠ n) :
    Memory.get (l ++ m) n = Memory.get m n := by
  induction l with
  | nil => rfl
  | cons c r ih =>
    obtain ⟨k, v⟩ := c
    obtain ⟨hk, hr⟩ := List.forall_mem_cons.1 h
    rw [List.cons_append, Memory.get, if_neg hk, ih hr]

/-- Cells of other addresses behind do not matter. -/
theorem Memory.get_append_left {l m : List Host.Cell} {n : Nat} (h : ∀ c ∈ m, c.1 ≠ n) :
    Memory.get (l ++ m) n = Memory.get l n := by
  induction l with
  | nil => exact Memory.get_of_forall_ne h
  | cons c r ih =>
    obtain ⟨k, v⟩ := c
    rw [List.cons_append, Memory.get, Memory.get, ih]

/-- Two canonical parts, the second at higher addresses, are canonical together. -/
theorem Memory.wf_append {l m : List Host.Cell} (hl : Memory.wf l) (hm : Memory.wf m)
    (h : ∀ c ∈ l, ∀ d ∈ m, c.1 < d.1) : Memory.wf (l ++ m) :=
  ⟨List.pairwise_append.2 ⟨hl.1, hm.1, h⟩, List.forall_mem_append.2 ⟨hl.2, hm.2⟩⟩

/-! The cells of an image. -/

/-- A cell of an image lies between its ends and is not 0x00. -/
theorem mem_imageCells {n : Nat} {bytes : List Byte} {c : Host.Cell} (h : c ∈ imageCells n bytes) :
    n ≤ c.1 ∧ c.1 < n + bytes.length ∧ c.2 ≠ 0 := by
  induction bytes generalizing n with
  | nil => cases h
  | cons b r ih =>
    rw [List.length_cons]
    unfold imageCells at h
    split at h
    · obtain ⟨h1, h2, h3⟩ := ih h
      exact ⟨by omega, by omega, h3⟩
    · rename_i hb
      rcases List.mem_cons.1 h with rfl | h
      · exact ⟨le_rfl, by simp, fun h0 => hb (.inl h0)⟩
      · obtain ⟨h1, h2, h3⟩ := ih h
        exact ⟨by omega, by omega, h3⟩

theorem wf_imageCells (n : Nat) (bytes : List Byte) : Memory.wf (imageCells n bytes) := by
  refine ⟨?_, fun c hc => (mem_imageCells hc).2.2⟩
  induction bytes generalizing n with
  | nil => exact List.Pairwise.nil
  | cons b r ih =>
    unfold imageCells
    split
    · exact ih (n + 1)
    · exact List.pairwise_cons.2 ⟨fun c hc => (mem_imageCells hc).1, ih (n + 1)⟩

/-- Outside the mirror's addresses the cells give the image's bytes, and 0x00 past its end. -/
theorem get_imageCells {n : Nat} (bytes : List Byte) {k : Nat} (hk : ¬(0xE000 ≤ n + k ∧ n + k ≤ 0xFDFF)) :
    Memory.get (imageCells n bytes) (n + k) = bytes.getD k 0x00 := by
  induction bytes generalizing n k with
  | nil => rfl
  | cons b r ih =>
    cases k with
    | zero =>
      have hr : Memory.get (imageCells (n + 1) r) n = 0 :=
        Memory.get_of_forall_ne fun c hc => by have := (mem_imageCells hc).1; omega
      unfold imageCells
      split
      · rename_i hb
        rcases hb with rfl | hb
        · exact hr
        · exact absurd hb hk
      · exact if_pos rfl
    | succ k =>
      have hr : Memory.get (imageCells (n + 1) r) (n + (k + 1)) = r.getD k 0x00 := by
        rw [← ih (n := n + 1) (k := k) (by omega)]
        congr 1
        omega
      rw [List.getD_cons_succ, ← hr, imageCells]
      split
      · rfl
      · exact if_neg (by omega)

/-! The memory of a launch. -/

/-- The first two banks of an image, then the initial high region (R82, R83). -/
def launchCells (rom hiInit : List Byte) : List Host.Cell :=
  imageCells 0 (rom.take 0x8000) ++ imageCells 0x8000 (hiInit.take 0x8000)

theorem launch_malformed {rom : List Byte} (hiInit : List Byte) (p : Params) (d : List Draw)
    (h : rom.length = 0 ∨ rom.length % 0x4000 ≠ 0) :
    launch rom hiInit p d = .fault (.malformedCartridge rom.length) := if_pos h

theorem launch_next {rom : List Byte} (hiInit : List Byte) (p : Params) (d : List Draw) (h0 : rom.length ≠ 0)
    (hm : rom.length % 0x4000 = 0) :
    launch rom hiInit p d = .next { State.reset with
      romBanks := rom.length / 0x4000, mem := launchCells rom hiInit, params := p, draws := d } :=
  if_neg (by omega)

theorem wf_launchCells (rom hiInit : List Byte) : Memory.wf (launchCells rom hiInit) := by
  refine Memory.wf_append (wf_imageCells _ _) (wf_imageCells _ _) fun c hc d hd => ?_
  have hc := (mem_imageCells hc).2.1
  have hd := (mem_imageCells hd).1
  have hl := List.length_take_le 0x8000 rom
  omega

theorem get_launchCells_rom {rom : List Byte} (hiInit : List Byte) {n : Nat} (hn : n < 0x8000)
    (hr : n < rom.length) : Memory.get (launchCells rom hiInit) n = rom[n] := by
  have hh : ∀ c ∈ imageCells 0x8000 (hiInit.take 0x8000), c.1 ≠ n := fun c hc => by
    have := (mem_imageCells hc).1
    omega
  have hg := get_imageCells (n := 0) (rom.take 0x8000) (k := n) (by omega)
  rw [Nat.zero_add] at hg
  unfold launchCells
  rw [Memory.get_append_left hh, hg]
  simp [List.getD_eq_getElem?_getD, hn, hr]

theorem get_launchCells_high (rom hiInit : List Byte) {n : Nat} (h8 : 0x8000 ≤ n) (hn : n < 0x10000)
    (hm : ¬(0xE000 ≤ n ∧ n ≤ 0xFDFF)) :
    Memory.get (launchCells rom hiInit) n = hiInit.getD (n - 0x8000) 0x00 := by
  have hl : ∀ c ∈ imageCells 0 (rom.take 0x8000), c.1 ≠ n := fun c hc => by
    have := (mem_imageCells hc).2.1
    have := List.length_take_le 0x8000 rom
    omega
  obtain ⟨k, rfl⟩ := Nat.exists_eq_add_of_le h8
  unfold launchCells
  rw [Memory.get_append_right hl, get_imageCells _ hm, Nat.add_sub_cancel_left]
  simp only [List.getD_eq_getElem?_getD, List.getElem?_take]
  rw [if_pos (by omega)]

/-- The registers at reset (R501), as a fault reports them. -/
theorem reset_snapshot : State.reset.snapshot = ⟨0x01B0, 0x0013, 0x00D8, 0x014D, 0xFFFE, 0x0100⟩ := by decide

/-- Settles O50: a launch is the fault of its image or the reset state over the cells of ROM and HI_INIT. -/
theorem launchLoadsCartridge : Obligations.LaunchLoadsCartridge := by
  intro rom hiInit p d
  refine ⟨launch_malformed hiInit p d, fun h0 hm => ⟨_, launch_next hiInit p d h0 hm, rfl, wf_launchCells rom hiInit,
    fun a ha => ?_, fun a h8 hmirror => ?_⟩⟩
  · split
    · rename_i hin
      rw [← get_launchCells_rom hiInit ha hin]
      refine memRead_eq_ok.2 ⟨.inr ?_, ?_⟩
      · show a.toNat < rom.length / 0x4000 * 0x4000
        omega
      · rw [mirror_of_lt a (by omega)]
        rfl
    · rename_i hout
      refine (memRead_error ?_).trans ?_
      · show ¬(0x8000 ≤ a.toNat ∨ a.toNat < rom.length / 0x4000 * 0x4000)
        omega
      · rw [romIndex_eq a ha, ← reset_snapshot]
        rfl
  · refine memRead_eq_ok.2 ⟨.inl h8, ?_⟩
    rw [← get_launchCells_high rom hiInit h8 a.isLt (by omega), mirror_toNat, if_neg (by omega)]
    rfl

end Sys2Proof.Machine
end

section
/-! The stops of the machine (20_memory.md R84; 45_system.md R333, R338; 60_exceptions.md R402, R441, R460): every part
of a tick ends in a state with the same image, in the fault of a ROM bank the image lacks, or in the refusal of STOP. -/

namespace Sys2Proof.Machine

open Sys2Proof.Claims

/-! What an operation may end in. -/

/-- The fault of an access at a ROM address the image of `s` lacks (R84, R86). -/
def MissingBank (s : State) (f : Fault) : Prop :=
  ∃ a g, f = .romIndexOutOfRange a a.toNat g ∧ a.toNat < 0x8000 ∧ s.romBanks * 0x4000 ≤ a.toNat

/-- With two banks in the image no bank is missing. -/
theorem not_missingBank {s : State} {f : Fault} (h : 2 ≤ s.romBanks) : ¬MissingBank s f := by
  rintro ⟨a, g, -, ha, hb⟩
  omega

/-- From `s`, the outcome is a state with the same number of banks, the fault of a missing bank, or a refusal that `p`
allows. -/
def EndsForCause (p : Refusal → Prop) (s : State) (o : Result) : Prop :=
  match o with
  | .next t => t.romBanks = s.romBanks
  | .fault f => MissingBank s f
  | .refused r => p r

variable {p : Refusal → Prop}

namespace EndsForCause

@[simp] theorem next {s t : State} : EndsForCause p s (.next t) ↔ t.romBanks = s.romBanks := Iff.rfl

@[simp] theorem fault {s : State} {f : Fault} : EndsForCause p s (.fault f) ↔ MissingBank s f := Iff.rfl

@[simp] theorem refused {s : State} {r : Refusal} : EndsForCause p s (.refused r) ↔ p r := Iff.rfl

/-- Only the number of banks of the state an operation starts in matters. -/
theorem of_banks {s m : State} {o : Result} (hb : m.romBanks = s.romBanks) (h : EndsForCause p m o) :
    EndsForCause p s o := by
  unfold EndsForCause MissingBank at h ⊢
  rw [hb] at h
  exact h

theorem andThen {s : State} {o : Result} {k : State → Result} (ho : EndsForCause p s o)
    (hk : ∀ m, EndsForCause p m (k m)) : EndsForCause p s (andThen o k) := by
  cases o with
  | next m => exact of_banks ho (hk m)
  | fault f => exact ho
  | refused r => exact ho

end EndsForCause

/-! The shared operations: none of them refuses. -/

theorem missingBank_of_memRead {s : State} {a : Word} {f : Fault} (h : memRead a s = .error f) : MissingBank s f := by
  by_cases ha : Readable s a
  · rw [memRead_ok ha] at h
    cases h
  · rw [memRead_error ha] at h
    unfold Readable at ha
    cases h
    exact ⟨a, _, by rw [romIndex_eq a (by omega)], by omega, by omega⟩

section
variable (s : State)

theorem readThen_endsForCause {a : Word} {k : Byte → Result} (hk : ∀ v, EndsForCause p s (k v)) :
    EndsForCause p s (readThen a s k) := by
  unfold readThen
  cases h : memRead a s with
  | ok v => exact hk v
  | error f => exact missingBank_of_memRead h

theorem readOperandThen_endsForCause {o : Operand8} {k : Byte → Result} (hk : ∀ v, EndsForCause p s (k v)) :
    EndsForCause p s (readOperandThen o s k) := by
  cases o with
  | reg r => exact hk (s.reg8 r)
  | atHl => exact readThen_endsForCause s hk

@[simp] theorem memWrite_endsForCause (a : Word) (v : Byte) : EndsForCause p s (memWrite a v s) := by
  by_cases h : Writable s a
  · rw [memWrite_next v h]
    exact stored_romBanks s a v
  · rw [memWrite_fault v h]
    unfold Writable at h
    exact ⟨a, _, by rw [romIndex_eq a (by omega)], by omega, by omega⟩

@[simp] theorem write8_endsForCause (o : Operand8) (v : Byte) : EndsForCause p s (write8 o v s) := by
  cases o with
  | reg r => simp [write8]
  | atHl => exact memWrite_endsForCause s s.hl v

@[simp] theorem push16_endsForCause (w : Word) : EndsForCause p s (push16 w s) :=
  .andThen (memWrite_endsForCause { s with sp := s.sp - 1 } _ _) fun m =>
    memWrite_endsForCause { m with sp := m.sp - 1 } _ _

@[simp] theorem callSub_endsForCause (a : Word) : EndsForCause p s (callSub a s) :=
  .andThen (push16_endsForCause s _) fun _ => rfl

theorem pop16_endsForCause {k : Word → State → Result} (hk : ∀ w m, EndsForCause p m (k w m)) :
    EndsForCause p s (pop16 s k) :=
  readThen_endsForCause s fun _ => readThen_endsForCause { s with sp := s.sp + 1 } fun _ =>
    hk _ { s with sp := s.sp + 1 + 1 }

@[simp] theorem popTo_endsForCause (r : Reg16) : EndsForCause p s (popTo r s) :=
  pop16_endsForCause s fun _ _ => by simp

@[simp] theorem retSub_endsForCause : EndsForCause p s (retSub s) := pop16_endsForCause s fun _ _ => rfl

@[simp] theorem returnFromInterrupt_endsForCause : EndsForCause p s (returnFromInterrupt s) :=
  .andThen (retSub_endsForCause s) fun _ => rfl

@[simp] theorem loadFrom_endsForCause (r : Reg8) (a : Word) : EndsForCause p s (loadFrom r a s) :=
  readThen_endsForCause s fun _ => by simp

@[simp] theorem aluOn_romBanks (op : AluOp) (b : Byte) : (aluOn op b s).romBanks = s.romBanks :=
  (aluOn_effect op b s).romBanks

@[simp] theorem aluOperand_endsForCause (op : AluOp) (o : Operand8) : EndsForCause p s (aluOperand op o s) :=
  readOperandThen_endsForCause s fun b => aluOn_romBanks s op b

@[simp] theorem stepOperand_endsForCause (f : Byte → Flags → Byte × Flags) (o : Operand8) :
    EndsForCause p s (stepOperand f o s) :=
  readOperandThen_endsForCause s fun _ => .andThen (write8_endsForCause s o _) fun _ => by simp

@[simp] theorem rotateA_romBanks (op : RotOp) : (rotateA op s).romBanks = s.romBanks := (rotateA_effect op s).romBanks

@[simp] theorem rotateOperand_endsForCause (op : RotOp) (o : Operand8) : EndsForCause p s (rotateOperand op o s) :=
  readOperandThen_endsForCause s fun _ => .andThen (write8_endsForCause s o _) fun _ => by simp

@[simp] theorem bitOperand_endsForCause (b : Nat) (o : Operand8) : EndsForCause p s (bitOperand b o s) :=
  readOperandThen_endsForCause s fun _ => by simp

@[simp] theorem mapOperand_endsForCause (f : Byte → Byte) (o : Operand8) : EndsForCause p s (mapOperand f o s) :=
  readOperandThen_endsForCause s fun _ => write8_endsForCause s o _

@[simp] theorem jumpIf_endsForCause (cc : Cond) (a : Word) : EndsForCause p s (jumpIf cc a s) := by
  unfold jumpIf
  split <;> rfl

@[simp] theorem callIf_endsForCause (cc : Cond) (a : Word) : EndsForCause p s (callIf cc a s) := by
  unfold callIf
  split <;> simp

@[simp] theorem retIf_endsForCause (cc : Cond) : EndsForCause p s (retIf cc s) := by
  unfold retIf
  split <;> simp

@[simp] theorem selectCb_endsForCause (b : Byte) : EndsForCause p s (selectCb b s) := by
  unfold selectCb
  dsimp only
  split <;> simp

/-- Every instruction but STOP ends in a state or in the fault of a missing bank; STOP is refused (R333). -/
theorem exec_endsForCause (i : Instr) (hstop : i = .stop → p (.stopNotModelled (s.pc - 1))) :
    EndsForCause p s (exec i s) := by
  cases i
  case stop => exact hstop rfl
  case ldAtA16Sp a => exact .andThen (memWrite_endsForCause s a _) fun m => memWrite_endsForCause m _ _
  case ldAtHlIncA | ldAtHlDecA => exact .andThen (memWrite_endsForCause s s.hl _) fun _ => by simp
  case ldAAtHlInc | ldAAtHlDec => exact .andThen (loadFrom_endsForCause s .a s.hl) fun _ => by simp
  all_goals simp [copyReg, addHl, spRelative, logIllegal]

end

/-- An instruction is refused exactly if it is STOP (R333, R338). -/
theorem exec_refused_iff (i : Instr) (s : State) : (∃ r, exec i s = .refused r) ↔ i = .stop := by
  refine ⟨fun ⟨r, hr⟩ => ?_, fun h => by subst h; exact ⟨_, rfl⟩⟩
  by_contra hi
  have h := exec_endsForCause (p := fun _ => False) s i fun h => hi h
  rw [hr] at h
  exact h

/-! The fetch: its bytes always decode. -/

theorem length_cbMap : cbMap.length = 256 := by
  simp only [cbMap, List.length_append]
  rfl

theorem length_mainMap : mainMap.length = 256 := by
  simp only [mainMap, List.length_append]
  rfl

theorem cbInstr?_isSome (b : Byte) : (cbInstr? b).isSome = true := by
  have h : b.toNat < cbMap.length := by rw [length_cbMap]; exact b.isLt
  unfold cbInstr?
  rw [List.getElem?_eq_getElem h]
  rfl

/-- Every cell of the opcode map is an instruction, whatever its operand bytes (R132). -/
theorem mainMap_isSome : ∀ cell ∈ mainMap, ∀ b0 b1, (cell b0 b1).isSome = true := by
  simp only [mainMap, List.forall_mem_append]
  simp [mainRow0, mainRow1, mainRow2, mainRow3, mainRow4, mainRow5, mainRow6, mainRow7, mainRow8, mainRow9,
    mainRowA, mainRowB, mainRowC, mainRowD, mainRowE, mainRowF, cbInstr?_isSome]

/-- An opcode with all its operand bytes decodes (R134, R338). -/
theorem decode_of_operands {op : Byte} {rest : List Byte} (h : operandCount op ≤ rest.length) :
    ∃ i, decode (op :: rest) = .ok i := by
  have hop : op.toNat < mainMap.length := by rw [length_mainMap]; exact op.isLt
  obtain ⟨i, hi⟩ := Option.isSome_iff_exists.1
    (mainMap_isSome _ (List.getElem_mem hop) (rest.getD 0 0x00) (rest.getD 1 0x00))
  refine ⟨i, ?_⟩
  rw [decode, if_neg (by omega), List.getElem?_eq_getElem hop]
  dsimp only
  rw [hi]

theorem fetch8_error {s : State} {f : Fault} (h : fetch8 s = .error f) : MissingBank s f := by
  unfold fetch8 at h
  split at h
  · cases h
  · rename_i hr
    cases h
    exact missingBank_of_memRead hr

theorem MissingBank.of_effect {s t : State} {f : Fault} (h : MissingBank t f) (ht : CpuEffect s t) :
    MissingBank s f := by
  unfold MissingBank at h ⊢
  rw [← ht.romBanks]
  exact h

theorem fetchBytes_error {n : Nat} {s : State} {f : Fault} (h : fetchBytes n s = .error f) : MissingBank s f := by
  induction n generalizing s with
  | zero => cases h
  | succ n ih =>
    unfold fetchBytes at h
    split at h
    · rename_i hb
      cases h
      exact fetch8_error hb
    · rename_i hb
      split at h
      · rename_i hr
        cases h
        exact (ih hr).of_effect (fetch8_effect hb)
      · cases h

theorem fetchBytes_length {n : Nat} {s t : State} {r : List Byte} (h : fetchBytes n s = .ok (r, t)) : r.length = n := by
  induction n generalizing s r with
  | zero => cases h; rfl
  | succ n ih =>
    unfold fetchBytes at h
    split at h
    · cases h
    · split at h
      · cases h
      · rename_i hr
        cases h
        rw [List.length_cons, ih hr]

/-- A fetch faults only for a missing bank: no opcode is unrecognized (R338). -/
theorem fetchInstr_error {s : State} {f : Fault} (h : fetchInstr s = .error f) : MissingBank s f := by
  unfold fetchInstr at h
  split at h
  · rename_i hb
    cases h
    exact fetch8_error hb
  · rename_i hb
    split at h
    · rename_i hr
      cases h
      exact (fetchBytes_error hr).of_effect (fetch8_effect hb)
    · rename_i hr
      obtain ⟨i, hi⟩ := decode_of_operands (fetchBytes_length hr).ge
      rw [hi] at h
      cases h

/-! The units of the tick. -/

section
variable (hstop : ∀ pc, p (.stopNotModelled pc))
include hstop

theorem fetchExecute_endsForCause (s : State) : EndsForCause p s (fetchExecute s) := by
  unfold fetchExecute
  cases h : fetchInstr s with
  | error f => exact fetchInstr_error h
  | ok is =>
    exact .of_banks (fetchInstr_effect h).romBanks
      (.andThen (exec_endsForCause is.2 is.1 fun _ => hstop _) fun _ => rfl)

theorem interruptStep_endsForCause (s : State) : EndsForCause p s (interruptStep s) := by
  unfold interruptStep
  cases interruptToTake s with
  | none => exact fetchExecute_endsForCause hstop s
  | some i =>
    refine .andThen (callSub_endsForCause { s.poke 0xFF0F _ with ime := false } _) fun m => ?_
    split
    · rfl
    · exact fetchExecute_endsForCause hstop m

theorem stallStep_endsForCause (s : State) : EndsForCause p s (stallStep s) := by
  unfold stallStep
  split
  · rfl
  · exact interruptStep_endsForCause hstop s

theorem cpuTick_endsForCause (s : State) : EndsForCause p s (cpuTick s) := by
  unfold cpuTick
  split
  · split
    · rfl
    · exact stallStep_endsForCause hstop { s with halted := false }
  · exact stallStep_endsForCause hstop s

end

theorem memoryTick_endsForCause (s : State) : EndsForCause p s (memoryTick s) := by
  unfold memoryTick
  split
  · exact readThen_endsForCause s fun _ => rfl
  · rfl

theorem spriteShade_error {s : State} {x ly : Nat} {ci : Shade} {l : List (Fin 40)} {f : Fault}
    (h : spriteShade s x ly ci l = .error f) : MissingBank s f := by
  induction l with
  | nil => cases h
  | cons i r ih =>
    unfold spriteShade at h
    split at h
    · rename_i hr
      cases h
      exact missingBank_of_memRead hr
    · split at h
      · rename_i hr
        cases h
        exact missingBank_of_memRead hr
      · dsimp only at h
        split at h
        · exact ih h
        · split at h <;> cases h

theorem pixelShade_error {s : State} {x ly : Nat} {f : Fault} (h : pixelShade s x ly = .error f) : MissingBank s f := by
  unfold pixelShade at h
  dsimp only at h
  split at h
  · exact spriteShade_error h
  · cases h

theorem firstPixelFault_some {s : State} {ly : Nat} {xs : List Nat} {f : Fault}
    (h : firstPixelFault s ly xs = some f) : MissingBank s f := by
  induction xs with
  | nil => cases h
  | cons x r ih =>
    unfold firstPixelFault at h
    split at h
    · rename_i hp
      cases h
      exact pixelShade_error hp
    · exact ih h

/-- The one stop of the PPU: sprite data in a missing bank (R440). -/
theorem renderLine_endsForCause (ly : Nat) (s : State) : EndsForCause p s (renderLine ly s) := by
  unfold renderLine
  split
  · rename_i h
    exact firstPixelFault_some h
  · rfl

theorem ppuAtDot_endsForCause (ly : Nat) (s : State) : EndsForCause p s (ppuAtDot ly s) := by
  unfold ppuAtDot
  split
  · have hc := (coincidence_effect s).romBanks
    split
    · exact (enterMode_effect 2 _).romBanks.trans hc
    · split
      · exact (enterMode_effect 1 _).romBanks.trans hc
      · exact hc
  · split
    · exact .of_banks (enterMode_effect 3 s).romBanks (renderLine_endsForCause ly _)
    · split
      · exact (enterMode_effect 0 s).romBanks
      · rfl

theorem ppuTick_endsForCause (s : State) : EndsForCause p s (ppuTick s) :=
  .andThen (ppuAtDot_endsForCause _ { s with frameReady := false }) fun m => (advanceDot_effect _ m).romBanks

theorem laterPhases_endsForCause (s : State) : EndsForCause p s (laterPhases s) :=
  .andThen (.of_banks (collaborators_effect s).romBanks (ppuTick_endsForCause _)) fun m =>
    (presentFrame_effect m).romBanks

/-- What a tick that runs may end in (R441). -/
theorem step_endsForCause {s : State} (hq : s.nextDraw.quit = false) :
    EndsForCause (fun r => ∃ pc, r = .stopNotModelled pc) s (step s) := by
  unfold step consoleTick
  rw [hq]
  exact .andThen (memoryTick_endsForCause s) fun m =>
    .andThen (cpuTick_endsForCause (fun pc => ⟨pc, rfl⟩) m) laterPhases_endsForCause

/-- A quit asked for at the boundary ends the run before the tick (R460). -/
theorem step_of_quit {s : State} (hq : s.nextDraw.quit = true) : step s = .refused .quit := if_pos hq

theorem step_fault {s : State} {f : Fault} (h : step s = .fault f) : MissingBank s f := by
  cases hq : s.nextDraw.quit with
  | true => rw [step_of_quit hq] at h; cases h
  | false =>
    have hs := step_endsForCause hq
    rw [h] at hs
    exact hs

/-- A tick is refused by a quit or by STOP (R333, R460). -/
theorem step_refused {s : State} {r : Refusal} (h : step s = .refused r) :
    (s.nextDraw.quit = true ∧ r = .quit) ∨ ∃ pc, r = .stopNotModelled pc := by
  cases hq : s.nextDraw.quit with
  | true => rw [step_of_quit hq] at h; cases h; exact .inl ⟨rfl, rfl⟩
  | false =>
    have hs := step_endsForCause hq
    rw [h] at hs
    exact .inr hs

/-- Settles O56: each part of a tick ends for a cause, so the tick does. -/
theorem stepStopsOnlyForCause : Obligations.StepStopsOnlyForCause := by
  refine ⟨fun s hb f hf => not_missingBank hb (step_fault hf), fun s f => step_fault, exec_refused_iff,
    fun s => ⟨fun h => ?_, step_of_quit⟩, fun s m h => ?_⟩
  · rcases step_refused h with ⟨hq, -⟩ | ⟨pc, hr⟩
    · exact hq
    · cases hr
  · rcases step_refused h with ⟨-, hr⟩ | ⟨pc, hr⟩ <;> cases hr

end Sys2Proof.Machine
end

section
/-! The decoder and the encoder (30_encoding.md R121 to R134). Two facts about the opcode maps carry the statements:
every well-formed instruction stands at the place its encoding points to, and what stands at a place encodes to that
place's opcode and operand bytes. -/

namespace Sys2Proof.Machine

/-! The opcode map as `decode` reads it. -/

/-- The instruction the opcode map has for `op` before the bytes `b0` and `b1` (R132, R134). -/
def mapInstr? (op b0 b1 : Byte) : Option Instr := mainMap[op.toNat]?.bind fun cell => cell b0 b1

/-- `decode` answers what the map has, given the opcode's operand bytes (R134). -/
theorem decode_cons_eq_ok {op : Byte} {rest : List Byte} {i : Instr} :
    decode (op :: rest) = .ok i ↔
      operandCount op ≤ rest.length ∧ mapInstr? op (rest.getD 0 0x00) (rest.getD 1 0x00) = some i := by
  unfold decode mapInstr?
  dsimp only
  split
  · next hlen => exact ⟨nofun, fun h => absurd hlen (Nat.not_lt.2 h.1)⟩
  · next hlen =>
    rw [and_iff_right (Nat.le_of_not_lt hlen)]
    cases mainMap[op.toNat]? with
    | none => exact ⟨nofun, nofun⟩
    | some cell =>
      dsimp only [Option.bind_some]
      cases cell (rest.getD 0 0x00) (rest.getD 1 0x00) <;> simp

/-! The two maps by their sixteen rows: a row and a place in it are found in few steps, where the whole map takes
many. -/

/-- The entry of the byte `b` in a map given by its sixteen rows: the high nibble counts the rows, the low nibble the
places of a row (R132, R133). -/
def gridCell? {α : Type} (rows : List (List α)) (b : Byte) : Option α :=
  rows[b.toNat / 16]?.bind fun row => row[b.toNat % 16]?

theorem flatten_getElem?_eq_gridCell? {α : Type} {rows : List (List α)} (h : ∀ row ∈ rows, row.length = 16)
    (b : Byte) : rows.flatten[b.toNat]? = gridCell? rows b := by
  unfold gridCell?
  generalize b.toNat = n
  induction rows generalizing n with
  | nil => simp
  | cons row rows ih =>
    have hrow : row.length = 16 := h row List.mem_cons_self
    rw [List.flatten_cons]
    by_cases hn : n < 16
    · rw [List.getElem?_append_left (by omega), Nat.div_eq_of_lt hn, Nat.mod_eq_of_lt hn]
      rfl
    · obtain ⟨m, rfl⟩ : ∃ m, n = m + 16 := ⟨n - 16, by omega⟩
      rw [List.getElem?_append_right (by omega), hrow, Nat.add_sub_cancel, ih fun r hr => h r (.tail _ hr)]
      simp

/-- The rows of the opcode map (R132). -/
def mainRows : List (List (Byte → Byte → Option Instr)) :=
  [mainRow0, mainRow1, mainRow2, mainRow3, mainRow4, mainRow5, mainRow6, mainRow7,
   mainRow8, mainRow9, mainRowA, mainRowB, mainRowC, mainRowD, mainRowE, mainRowF]

/-- The rows of the CB map (R133). -/
def cbRows : List (List Instr) :=
  [cbRow0, cbRow1, cbRow2, cbRow3, cbRow4, cbRow5, cbRow6, cbRow7,
   cbRow8, cbRow9, cbRowA, cbRowB, cbRowC, cbRowD, cbRowE, cbRowF]

theorem mainMap_getElem? (op : Byte) : mainMap[op.toNat]? = gridCell? mainRows op := by
  have h : mainMap = mainRows.flatten := by simp [mainMap, mainRows]
  rw [h, flatten_getElem?_eq_gridCell? (by simp [mainRows]; decide)]

theorem cbInstr?_eq_gridCell? (b : Byte) : cbInstr? b = gridCell? cbRows b := by
  have h : cbMap = cbRows.flatten := by simp [cbMap, cbRows]
  rw [cbInstr?, h, flatten_getElem?_eq_gridCell? (by simp [cbRows]; decide)]

/-- The instruction the rows have for `op` before the bytes `args`: at 0xCB that of the CB map (R132 to R134). -/
def gridInstr? (op : Byte) (args : List Byte) : Option Instr :=
  if op = 0xCB then args.head?.bind (gridCell? cbRows)
  else (gridCell? mainRows op).bind fun cell => cell (args.getD 0 0x00) (args.getD 1 0x00)

theorem mapInstr?_of_gridInstr? {op : Byte} {args : List Byte} {i : Instr} (h : gridInstr? op args = some i) :
    mapInstr? op (args.getD 0 0x00) (args.getD 1 0x00) = some i := by
  unfold gridInstr? at h
  rw [mapInstr?, mainMap_getElem?]
  split at h
  · next hop =>
    subst hop
    cases args with
    | nil => cases h
    | cons b args => exact (cbInstr?_eq_gridCell? b).trans h
  · exact h

/-- Every well-formed instruction stands where the bytes of its encoding point, whatever follows them (R121, R129). An
operand word comes back from its two halves. -/
theorem gridInstr?_encode {i : Instr} (h : i.wellFormed = true) :
    ∃ op args, encode i = op :: args ∧ ∀ rest, gridInstr? op (args ++ rest) = some i := by
  cases i
  case prefixCb => cases h
  case ldBcD16 n | ldDeD16 n | ldHlD16 n | ldSpD16 n | ldAtA16Sp n | jpNzA16 n | jpA16 n | callNzA16 n | jpZA16 n
    | callZA16 n | callA16 n | jpNcA16 n | callNcA16 n | jpCA16 n | callCA16 n | ldAtA16A n | ldAAtA16 n =>
    exact ⟨_, _, rfl, fun rest => congrArg (fun w => some _) (joinBytes_hiByte_loByte n)⟩
  -- The other operands are whole bytes: the place the bytes point to holds the instruction itself.
  all_goals exact ⟨_, _, rfl, fun rest => rfl⟩

/-! What the cells of the maps encode to. -/

/-- Each pair 0xCB b1 is the encoding of its row in the CB map (R133, R134). -/
theorem cbRows_encode : ∀ row ∈ cbRows.zipIdx, ∀ p ∈ row.1.zipIdx,
    p.1.wellFormed = true ∧ encode p.1 = [0xCB, BitVec.ofNat 8 (16 * row.2 + p.2)] := by
  decide

theorem cbInstr?_encode {b : Byte} {i : Instr} (h : cbInstr? b = some i) :
    i.wellFormed = true ∧ encode i = [0xCB, b] := by
  rw [cbInstr?_eq_gridCell?, gridCell?, Option.bind_eq_some_iff] at h
  obtain ⟨row, hrow, hi⟩ := h
  have henc := cbRows_encode (row, _) (List.mem_zipIdx_iff_getElem?.2 hrow) (i, _) (List.mem_zipIdx_iff_getElem?.2 hi)
  rwa [Nat.div_add_mod, BitVec.ofNat_toNat, BitVec.setWidth_eq] at henc

/-- With `n` operand bytes at the opcode `op`, the cell's instructions are well-formed and encode to the opcode and
those bytes, but for STOP, whose ignored second byte is no operand (R122, R134). -/
def CellEncodes (op : Byte) (n : Nat) (cell : Byte → Byte → Option Instr) : Prop :=
  ∀ b0 b1 i, cell b0 b1 = some i → i.wellFormed = true ∧ (op ≠ 0x10#8 → encode i = op :: [b0, b1].take n)

/-- A row without operands. -/
theorem cellEncodes_op {op : Byte} {i : Instr} :
    CellEncodes op 0 (fun _ _ => some i) ↔ i.wellFormed = true ∧ (op ≠ 0x10#8 → encode i = [op]) := by
  simp [CellEncodes]

/-- A row with one operand byte. -/
theorem cellEncodes_byte {op : Byte} {f : Byte → Instr} :
    CellEncodes op 1 (fun n _ => some (f n)) ↔
      (∀ n, (f n).wellFormed = true) ∧ ∀ n, op ≠ 0x10#8 → encode (f n) = [op, n] := by
  simp [CellEncodes, forall_and]

/-- A row with an operand word, low byte first. -/
theorem cellEncodes_word {op : Byte} {f : Word → Instr} :
    CellEncodes op 2 (fun lo hi => some (f (joinBytes hi lo))) ↔
      (∀ w, (f w).wellFormed = true) ∧ ∀ w, op ≠ 0x10#8 → encode (f w) = [op, loByte w, hiByte w] := by
  rw [← forall_and]
  constructor
  · intro h w
    simpa using h (loByte w) (hiByte w) (f w)
  · rintro h lo hi _ ⟨⟩
    simpa using h (joinBytes hi lo)

/-- The row of 0xCB, which goes on to the CB map (R134, R336). -/
theorem cellEncodes_cbInstr? : CellEncodes 0xCB#8 1 fun b0 _ => cbInstr? b0 := by
  intro b0 b1 i h
  obtain ⟨hwf, henc⟩ := cbInstr?_encode h
  exact ⟨hwf, fun _ => henc⟩

/-- The opcode map and the operand counts agree cell by cell (R122, R132). -/
theorem mainMap_encodes :
    List.Forall₂ (fun p n => CellEncodes (BitVec.ofNat 8 p.2) n p.1) mainMap.zipIdx operandCounts := by
  unfold mainMap operandCounts
  simp only [List.zipIdx_append]
  iterate 15 refine List.rel_append ?_ ?_
  all_goals
    simp only [mainRow0, mainRow1, mainRow2, mainRow3, mainRow4, mainRow5, mainRow6, mainRow7, mainRow8, mainRow9,
      mainRowA, mainRowB, mainRowC, mainRowD, mainRowE, mainRowF, List.length_append, List.length_cons, List.length_nil,
      Nat.reduceAdd, List.zipIdx_cons, List.zipIdx_nil, List.forall₂_cons, List.Forall₂.nil, cellEncodes_op,
      cellEncodes_byte, cellEncodes_word, cellEncodes_cbInstr?, BitVec.reduceNe, false_imp_iff, and_true,
      true_and]
    and_intros
  -- Left is, of each constructor, that it is well-formed and which bytes it has, as its definitions say.
  all_goals
    intros
    rfl

/-- Every opcode has its place in the table of operand counts. -/
theorem operandCounts_getElem? (op : Byte) : operandCounts[op.toNat]? = some (operandCount op) := by
  have hop : op.toNat < operandCounts.length := by
    rw [← (List.forall₂_iff_get.1 mainMap_encodes).1, List.length_zipIdx, length_mainMap]
    exact op.isLt
  unfold operandCount
  generalize operandCounts = counts at hop ⊢
  simp [hop]

theorem operandCount_le_two (op : Byte) : operandCount op ≤ 2 := by
  have h : ∀ n ∈ operandCounts, n ≤ 2 := by
    unfold operandCounts
    simp only [List.forall_mem_append]
    decide
  exact h _ (List.mem_of_getElem? (operandCounts_getElem? op))

/-- What the map has for an opcode and two bytes encodes to the opcode and those of the bytes that are its operands. -/
theorem mapInstr?_encode {op b0 b1 : Byte} {i : Instr} (h : mapInstr? op b0 b1 = some i) :
    i.wellFormed = true ∧ (op ≠ 0x10 → encode i = op :: [b0, b1].take (operandCount op)) := by
  obtain ⟨cell, hcell, hi⟩ := Option.bind_eq_some_iff.1 h
  obtain ⟨hop, rfl⟩ := List.getElem?_eq_some_iff.1 hcell
  have hz : op.toNat < mainMap.zipIdx.length := by rwa [List.length_zipIdx]
  obtain ⟨hn, hcount⟩ := List.getElem?_eq_some_iff.1 (operandCounts_getElem? op)
  have henc := (List.forall₂_iff_get.1 mainMap_encodes).2 op.toNat hz hn
  simp only [List.get_eq_getElem, List.getElem_zipIdx, Nat.zero_add, BitVec.ofNat_toNat, BitVec.setWidth_eq,
    hcount] at henc
  exact henc b0 b1 i hi

/-- Of two bytes read from a list that is long enough, the first `n` are the list's. -/
theorem take_getD {n : Nat} (hn : n ≤ 2) {l : List Byte} (hl : n ≤ l.length) :
    [l.getD 0 0x00, l.getD 1 0x00].take n = l.take n := by
  match n, l with
  | 0, _ => rfl
  | 1, _ :: _ => rfl
  | 2, _ :: _ :: _ => rfl

/-- Settles O53: an opcode with its operand bytes decodes, and what the map has for it encodes to those bytes. -/
theorem decoderIsTotal : Obligations.DecoderIsTotal := by
  intro op rest hlen
  obtain ⟨i, hi⟩ := decode_of_operands hlen
  obtain ⟨hwf, henc⟩ := mapInstr?_encode (decode_cons_eq_ok.1 hi).2
  refine ⟨i, hi, hwf, fun hop => ?_⟩
  rw [henc hop, take_getD (operandCount_le_two op) hlen]

/-- The encoding of an instruction has the operand bytes of its opcode. -/
theorem operandCount_le_of_encode {op b0 b1 : Byte} {args : List Byte} {i : Instr} (henc : encode i = op :: args)
    (hi : mapInstr? op b0 b1 = some i) : operandCount op ≤ args.length := by
  by_cases hop : op = 0x10
  · subst hop
    exact Nat.zero_le _
  · obtain ⟨-, hargs⟩ := mapInstr?_encode hi
    have htail : args = [b0, b1].take (operandCount op) := (List.cons.inj (henc.symm.trans (hargs hop))).2
    have := operandCount_le_two op
    simp [htail, this]

/-- Settles O52: the bytes of the encoding point to the instruction's place in the maps, whatever follows them. -/
theorem decodeEncode : Obligations.DecodeEncode := by
  intro i rest hwf
  obtain ⟨op, args, henc, hgrid⟩ := gridInstr?_encode hwf
  have hi := mapInstr?_of_gridInstr? (hgrid rest)
  have hlen : operandCount op ≤ args.length := operandCount_le_of_encode henc hi
  rw [henc, List.cons_append, decode_cons_eq_ok, List.length_append]
  exact ⟨by omega, hi⟩

/-- Settles O51: each of the words is looked up in its map. -/
theorem decodeWords : Obligations.DecodeWords := by
  unfold Obligations.DecodeWords
  decide

end Sys2Proof.Machine
end

section
/-! Loads, stores and the stack (40_load.md R201 to R234). An instruction's row of the opcode table follows from its
encoding; its meaning is one shared operation over registers, memory or the stack, of which one lemma says what it
leaves. -/

namespace Sys2Proof.Machine

open Sys2Proof.Claims

/-! Rows of the opcode table (R121, R131). -/

/-- The bytes encode `i`, and the default table has these costs for their opcode (R121, R131). -/
abbrev Encodes (bytes : List Byte) (i : Instr) (cost notTaken : Nat) : Prop :=
  i.wellFormed = true ∧ encode i = bytes ∧ defaultCost (opcodeKey bytes) = (cost, notTaken)

/-- The bytes an instruction is encoded to are its row: they decode to it. -/
theorem Encodes.row {bytes : List Byte} {i : Instr} {cost notTaken : Nat} (h : Encodes bytes i cost notTaken) :
    Row bytes i cost notTaken := by
  obtain ⟨hwf, rfl, hcost⟩ := h
  have hdec := decodeEncode i [] hwf
  rw [List.append_nil] at hdec
  exact ⟨hdec, congrArg Prod.fst hcost, congrArg Prod.snd hcost⟩

/-- The row of an instruction with an operand word, low byte first (R129). -/
theorem row_word {op : Byte} {f : Word → Instr} {cost notTaken : Nat}
    (h : ∀ w, Encodes [op, loByte w, hiByte w] (f w) cost notTaken) (lo hi : Byte) :
    Row [op, lo, hi] (f (hi ++ lo)) cost notTaken := by
  have hrow := (h (joinBytes hi lo)).row
  rwa [loByte_joinBytes, hiByte_joinBytes] at hrow

/-! The register file: what a write leaves (R32, R33). -/

theorem setReg8_regWritten (s : State) {r : Reg8} (v : Byte) (hr : r ≠ .f) : RegWritten r v s (s.setReg8 r v) where
  frame := setReg8_whole s r v
  value := by rw [reg8_setReg8_self, if_neg hr]
  others _ hq := reg8_setReg8_ne s v hq

theorem setReg16_pairWritten (s : State) {r : Reg16} (w : Word) (haf : r ≠ .af) (hpc : r ≠ .pc) :
    PairWritten r w s (s.setReg16 r w) where
  frame := by
    cases r with
    | af => exact absurd rfl haf
    | pc => exact absurd rfl hpc
    | bc | de | hl | sp => rfl
  value := by rw [reg16_setReg16_self, if_neg haf]
  others _ hq := reg16_setReg16_ne s w hq

/-- A word whose low nibble is clear is as AF reads it (R33). -/
theorem and_FFF0_of_low {w : Word} (h : w &&& 0x000F = 0) : w &&& 0xFFF0 = w :=
  calc w &&& 0xFFF0
    _ = (w &&& 0xFFF0) ||| (w &&& 0x000F) := by rw [h]; exact BitVec.or_zero.symm
    _ = w &&& (0xFFF0 ||| 0x000F) := BitVec.and_or_distrib_left.symm
    _ = w := BitVec.and_allOnes

/-- A register written with its own value changes nothing where F's low nibble is clear (R33, R201). -/
theorem setReg8_reg8 {s : State} (r : Reg8) (h : s.af &&& 0x000F = 0) : s.setReg8 r (s.reg8 r) = s := by
  have haf : s.af &&& 0xFFF0#16 = s.af := and_FFF0_of_low h
  cases r <;> simp [State.setReg8, State.setReg16, State.reg8, State.reg16, haf]

/-! Loads (R201 to R218). -/

theorem loadFrom_ok {r : Reg8} {a : Word} {s : State} {v : Byte} (h : memRead a s = .ok v) :
    loadFrom r a s = .next (s.setReg8 r v) := readThen_ok _ h

theorem loadFrom_error {r : Reg8} {a : Word} {s : State} {f : Fault} (h : memRead a s = .error f) :
    loadFrom r a s = .fault f := readThen_error _ h

/-- An address of page 0xFF as a number (R129). -/
theorem pageFF_toNat (n : Byte) : (pageFF n).toNat = 0xFF00 + n.toNat := by
  have hn := n.isLt
  unfold pageFF zext16
  rw [BitVec.toNat_add, BitVec.toNat_setWidth]
  simp
  omega

/-- Page 0xFF is above ROM, so that every read there gives a byte (R216, R218). -/
theorem memRead_pageFF (n : Byte) (s : State) : ∃ v, memRead (pageFF n) s = .ok v := by
  refine ⟨_, memRead_ok (.inl ?_)⟩
  rw [pageFF_toNat]
  omega

theorem loadsAcc_of_exec {bytes : List Byte} {cost : Nat} {i : Instr} {addr : State → Word}
    (hrow : Row bytes i cost cost) (hexec : ∀ s, exec i s = loadFrom .a (addr s) s) : LoadsAcc bytes cost i addr where
  row := hrow
  result s v h := ⟨_, (hexec s).trans (loadFrom_ok h), setReg8_regWritten s v nofun⟩
  fault s _ h := (hexec s).trans (loadFrom_error h)

theorem loadsAccStep_of_exec {op : Byte} {i : Instr} {next : Word → Word} (hrow : Row [op] i 8 8)
    (hexec : ∀ s, exec i s = andThen (loadFrom .a s.hl s) fun t => .next (t.setReg16 .hl (next t.hl))) :
    LoadsAccStep op i next where
  row := hrow
  result s v h := by
    obtain ⟨-, hval, hother⟩ := setReg8_regWritten s (r := .a) v nofun
    refine ⟨(s.setReg8 .a v).setReg16 .hl (next s.hl), ?_, rfl, hval, hother .f nofun⟩
    rw [hexec, loadFrom_ok h]
    rfl
  fault s f h := by rw [hexec, loadFrom_error h, andThen_fault]

theorem copyRows_encodes : ∀ row ∈ copyRows, Encodes [row.1] row.2.1 4 4 := by decide

theorem copyRows_ne_f : ∀ row ∈ copyRows, row.2.2.1 ≠ .f := by decide

theorem copyRows_exec (s : State) : ∀ row ∈ copyRows, exec row.2.1 s = copyReg row.2.2.1 row.2.2.2 s := by
  simp [copyRows]

/-- Settles O1: every row is a write of the destination with the source. -/
theorem copyRegister : Obligations.CopyRegister := by
  intro row hrow
  refine ⟨(copyRows_encodes row hrow).row, fun s => ⟨_, copyRows_exec s row hrow,
    setReg8_regWritten s _ (copyRows_ne_f row hrow), fun hsame hlow => ?_⟩⟩
  rw [hsame, setReg8_reg8 _ hlow]

theorem loadAtHlRows_encodes : ∀ row ∈ loadAtHlRows, Encodes [row.1] row.2.1 8 8 := by decide

theorem loadAtHlRows_ne_f : ∀ row ∈ loadAtHlRows, row.2.2 ≠ .f := by decide

theorem loadAtHlRows_exec (s : State) : ∀ row ∈ loadAtHlRows, exec row.2.1 s = loadFrom row.2.2 s.hl s := by
  simp [loadAtHlRows]

/-- Settles O2: every row is a load at the HL of the state before it. -/
theorem loadRegisterAtHl : Obligations.LoadRegisterAtHl := by
  intro row hrow
  have hexec (s : State) := loadAtHlRows_exec s row hrow
  exact ⟨(loadAtHlRows_encodes row hrow).row,
    fun s v h => ⟨_, (hexec s).trans (loadFrom_ok h), setReg8_regWritten s v (loadAtHlRows_ne_f row hrow)⟩,
    fun s f h => (hexec s).trans (loadFrom_error h)⟩

/-- Settles O3: five loads of A at an address, and two that step HL after the load. -/
theorem loadAccumulator : Obligations.LoadAccumulator := by
  refine ⟨loadsAcc_of_exec (Encodes.row ⟨rfl, rfl, rfl⟩) fun _ => rfl,
    loadsAcc_of_exec (Encodes.row ⟨rfl, rfl, rfl⟩) fun _ => rfl,
    fun lo hi => loadsAcc_of_exec (row_word (fun _ => ⟨rfl, rfl, rfl⟩) lo hi) fun _ => rfl,
    fun n => loadsAcc_of_exec (Encodes.row ⟨rfl, rfl, rfl⟩) fun _ => rfl,
    loadsAcc_of_exec (Encodes.row ⟨rfl, rfl, rfl⟩) fun _ => rfl,
    memRead_pageFF,
    loadsAccStep_of_exec (Encodes.row ⟨rfl, rfl, rfl⟩) fun _ => rfl,
    loadsAccStep_of_exec (Encodes.row ⟨rfl, rfl, rfl⟩) fun _ => rfl⟩

theorem loadByteRows_encodes (n : Byte) : ∀ row ∈ loadByteRows, Encodes [row.1, n] (row.2.1 n) 8 8 := by
  simp only [loadByteRows, List.forall_mem_cons, List.not_mem_nil, false_imp_iff, implies_true, and_true]
  and_intros <;> rfl

theorem loadByteRows_ne_f : ∀ row ∈ loadByteRows, row.2.2 ≠ .f := by decide

theorem loadByteRows_exec (n : Byte) (s : State) :
    ∀ row ∈ loadByteRows, exec (row.2.1 n) s = .next (s.setReg8 row.2.2 n) := by
  simp [loadByteRows]

theorem loadWordRows_encodes (w : Word) :
    ∀ row ∈ loadWordRows, Encodes [row.1, loByte w, hiByte w] (row.2.1 w) 12 12 := by
  simp only [loadWordRows, List.forall_mem_cons, List.not_mem_nil, false_imp_iff, implies_true, and_true]
  and_intros <;> rfl

theorem loadWordRows_ne : ∀ row ∈ loadWordRows, row.2.2 ≠ .af ∧ row.2.2 ≠ .pc := by decide

theorem loadWordRows_exec (w : Word) (s : State) :
    ∀ row ∈ loadWordRows, exec (row.2.1 w) s = .next (s.setReg16 row.2.2 w) := by
  simp [loadWordRows]

/-- Settles O5: every row is a write of the destination with the operand, or of SP with HL. -/
theorem loadImmediate : Obligations.LoadImmediate := by
  refine ⟨fun row hrow n => ⟨(loadByteRows_encodes n row hrow).row, fun s => ?_⟩,
    fun row hrow lo hi => ⟨row_word (fun w => loadWordRows_encodes w row hrow) lo hi, fun s => ?_⟩,
    Encodes.row ⟨rfl, rfl, rfl⟩, fun s => ⟨_, rfl, setReg16_pairWritten s s.hl nofun nofun⟩⟩
  · exact ⟨_, loadByteRows_exec n s row hrow, setReg8_regWritten s n (loadByteRows_ne_f row hrow)⟩
  · obtain ⟨haf, hpc⟩ := loadWordRows_ne row hrow
    exact ⟨_, loadWordRows_exec (hi ++ lo) s row hrow, setReg16_pairWritten s _ haf hpc⟩

/-- `sext_16` is the sign extension to 16 bits (R13). -/
theorem sext16_eq_signExtend (n : Byte) : sext16 n = n.signExtend 16 := by
  unfold sext16
  split
  · next hlt =>
    have hmsb : n.msb = false := BitVec.msb_eq_false_iff_two_mul_lt.2 (by omega)
    exact (BitVec.signExtend_eq_setWidth_of_msb_false hmsb).symm
  · next hge =>
    have hn := n.isLt
    have hmsb : n.msb = true := BitVec.msb_eq_true_iff_two_mul_ge.2 (by omega)
    apply BitVec.eq_of_toNat_eq
    rw [BitVec.toNat_signExtend, if_pos hmsb, BitVec.toNat_add]
    simp [zext16]
    omega

/-- `sp_add_e8` is a write of the sum and a write of the flags of the low-byte addition (R275). -/
theorem spRelative_eq (dst : Reg16) (n : Byte) (s : State) :
    spRelative dst n s = .next ((s.setReg16 dst (s.sp + n.signExtend 16)).setFlags ⟨false, false,
      decide (s.sp.toNat % 16 + n.toNat % 16 > 0x0F), decide (s.sp.toNat % 256 + n.toNat > 0xFF)⟩) := by
  rw [← sext16_eq_signExtend]
  rfl

/-- Settles O6: both are `sp_add_e8` into a register that is not AF, so A is kept and the flags are those written. -/
theorem stackPointerRelative : Obligations.StackPointerRelative := by
  refine fun n => ⟨Encodes.row ⟨rfl, rfl, rfl⟩, Encodes.row ⟨rfl, rfl, rfl⟩, fun s => ⟨?_, ?_⟩⟩
  · exact ⟨_, spRelative_eq .sp n s, rfl, reg8_setFlags _ _ nofun, flags_setFlags _ _⟩
  · exact ⟨_, spRelative_eq .hl n s, rfl, reg8_setFlags _ _ nofun, flags_setFlags _ _⟩

/-! Stores (R203 to R221). -/

/-- A write leaves the same addresses writable (R86). -/
theorem writable_iff_of_byteStored {a b : Word} {v : Byte} {s t : State} (h : ByteStored a v s t) :
    Writable t b ↔ Writable s b := by
  rw [h.whole]
  rfl

theorem memWrite_byteStored {s : State} {a : Word} (v : Byte) (h : Writable s a) :
    ∃ t, memWrite a v s = .next t ∧ ByteStored a v s t := ⟨_, memWrite_next v h, stored_byteStored v h⟩

theorem stores_of_exec {bytes : List Byte} {cost : Nat} {i : Instr} {addr : State → Word} {val : State → Byte}
    (hrow : Row bytes i cost cost) (hexec : ∀ s, exec i s = memWrite (addr s) (val s) s) :
    Stores bytes cost i addr val where
  row := hrow
  result s h := by
    rw [hexec]
    exact memWrite_byteStored (val s) h

theorem storesAccStep_of_exec {op : Byte} {i : Instr} {next : Word → Word} (hrow : Row [op] i 8 8)
    (hexec : ∀ s, exec i s = andThen (memWrite s.hl (s.reg8 .a) s) fun t => .next (t.setReg16 .hl (next t.hl))) :
    StoresAccStep op i next where
  row := hrow
  result s h := by
    obtain ⟨m, hm, hstored⟩ := memWrite_byteStored (s.reg8 .a) h
    have hhl : m.hl = s.hl := by rw [hstored.whole]
    refine ⟨m, ?_, hstored⟩
    rw [hexec, hm, andThen_next, hhl]
    rfl

theorem storeAtHlRows_encodes : ∀ row ∈ storeAtHlRows, Encodes [row.1] row.2.1 8 8 := by decide

theorem storeAtHlRows_exec (s : State) :
    ∀ row ∈ storeAtHlRows, exec row.2.1 s = memWrite s.hl (s.reg8 row.2.2) s := by
  simp [storeAtHlRows]

/-- Settles O4: each form is one write at its address, and two step HL after it. -/
theorem storeByte : Obligations.StoreByte := by
  refine ⟨fun row hrow => stores_of_exec (storeAtHlRows_encodes row hrow).row fun s => storeAtHlRows_exec s row hrow,
    fun n => stores_of_exec (Encodes.row ⟨rfl, rfl, rfl⟩) fun _ => rfl,
    stores_of_exec (Encodes.row ⟨rfl, rfl, rfl⟩) fun _ => rfl,
    stores_of_exec (Encodes.row ⟨rfl, rfl, rfl⟩) fun _ => rfl,
    fun lo hi => stores_of_exec (row_word (fun _ => ⟨rfl, rfl, rfl⟩) lo hi) fun _ => rfl,
    fun n => stores_of_exec (Encodes.row ⟨rfl, rfl, rfl⟩) fun _ => rfl,
    stores_of_exec (Encodes.row ⟨rfl, rfl, rfl⟩) fun _ => rfl,
    storesAccStep_of_exec (Encodes.row ⟨rfl, rfl, rfl⟩) fun _ => rfl,
    storesAccStep_of_exec (Encodes.row ⟨rfl, rfl, rfl⟩) fun _ => rfl⟩

/-- Settles O7: the second write can be made after the first, and a byte in the cell of neither is kept by both. -/
theorem storeStackPointer : Obligations.StoreStackPointer := by
  refine fun lo hi => ⟨row_word (fun _ => ⟨rfl, rfl, rfl⟩) lo hi, fun s hlow hhigh => ?_⟩
  obtain ⟨m, hm, hfst⟩ := memWrite_byteStored (loByte s.sp) hlow
  obtain ⟨t, ht, hsnd⟩ := memWrite_byteStored (hiByte m.sp) ((writable_iff_of_byteStored hfst).2 hhigh)
  have hexec : exec (.ldAtA16Sp (hi ++ lo)) s = .next t := by
    rw [exec_ldAtA16Sp, execLdAtA16Sp, hm, andThen_next, ht]
  have hsp : m.sp = s.sp := by rw [hfst.whole]
  rw [hsp] at hsnd
  refine ⟨m, t, hexec, hfst, hsnd, fun b h1 h2 => (hsnd.frame b h2).trans (hfst.frame b h1), ?_⟩
  rw [hsnd.whole, hfst.whole]

/-! The stack (R230 to R234). -/

/-- Two decrements of SP are a decrement by two (R230). -/
theorem sub_one_sub_one (a : Word) : a - 1 - 1 = a - 2 := by bv_omega

theorem add_one_add_one (a : Word) : a + 1 + 1 = a + 2 := by bv_omega

/-- No byte of the address space depends on SP. -/
theorem byteAt_with_sp (b a : Word) (s : State) : byteAt b { s with sp := a } = byteAt b s :=
  byteAt_congr rfl rfl

theorem push16_of_canPush {s : State} (w : Word) (h : CanPush s) : push16 w s = .next (s.pushed w) :=
  push16_next w h.1 (by rw [sub_one_sub_one]; exact h.2)

/-- A push that can be made leaves its two bytes, the high one first, and SP two lower (R230). -/
theorem pushed_wordPushed {s : State} (w : Word) (h : CanPush s) : WordPushed w s (s.pushed w) := by
  obtain ⟨hhigh, hlow⟩ := h
  unfold State.pushed
  rw [sub_one_sub_one]
  have hfst : ByteStored (s.sp - 1) (hiByte w) { s with sp := s.sp - 1 } _ := stored_byteStored (hiByte w) hhigh
  generalize ({ s with sp := s.sp - 1 } : State).stored (s.sp - 1) (hiByte w) = m at hfst ⊢
  have hsnd : ByteStored (s.sp - 2) (loByte w) { m with sp := s.sp - 2 } _ :=
    stored_byteStored (loByte w) ((writable_iff_of_byteStored hfst).2 hlow)
  generalize ({ m with sp := s.sp - 2 } : State).stored (s.sp - 2) (loByte w) = t at hsnd ⊢
  refine ⟨⟨m, hfst, hsnd⟩, ?_, ?_, fun b h1 h2 => ?_⟩
  · rw [hsnd.whole]
  · rw [hsnd.whole, hfst.whole]
  · rw [hsnd.frame b h2, byteAt_with_sp, hfst.frame b h1, byteAt_with_sp]

theorem pushRows_encodes : ∀ row ∈ pushRows, Encodes [row.1] row.2.1 16 16 := by decide

theorem pushRows_exec (s : State) : ∀ row ∈ pushRows, exec row.2.1 s = push16 (s.reg16 row.2.2) s := by
  simp [pushRows]

/-- Settles O8: every row is a push of what its pair reads, AF with bits 3 to 0 clear. -/
theorem pushPair : Obligations.PushPair := by
  refine fun row hrow => ⟨(pushRows_encodes row hrow).row, fun s h => ?_⟩
  have hword : (if row.2.2 = .af then s.af &&& 0xFFF0 else s.reg16 row.2.2) = s.reg16 row.2.2 := by
    split
    · next haf => rw [haf]; rfl
    · rfl
  rw [hword]
  exact ⟨_, (pushRows_exec s row hrow).trans (push16_of_canPush _ h), pushed_wordPushed _ h⟩

/-- A pop hands on the word on the stack, with SP two higher (R231). -/
theorem pop16_stacked {s : State} {w : Word} (k : Word → State → Result) (h : Stacked w s) :
    pop16 s k = k w { s with sp := s.sp + 2 } := by
  obtain ⟨hlo, hhi⟩ := h
  rw [pop16_ok k hlo hhi, add_one_add_one]
  exact congrArg (fun v => k v _) (joinBytes_hiByte_loByte w)

theorem pop16_fault {s : State} {f : Fault} (k : Word → State → Result) (h : PopFaults f s) :
    pop16 s k = .fault f := by
  unfold pop16
  rcases h with hfst | ⟨lo, hlo, hsnd⟩
  · exact readThen_error _ hfst
  · rw [readThen_ok _ hlo]
    exact readThen_error _ hsnd

theorem popTo_stacked {s : State} {w : Word} (r : Reg16) (h : Stacked w s) :
    popTo r s = .next (({ s with sp := s.sp + 2 } : State).setReg16 r w) := pop16_stacked _ h

theorem popTo_fault {s : State} {f : Fault} (r : Reg16) (h : PopFaults f s) : popTo r s = .fault f := pop16_fault _ h

/-- The flags after a write of AF are bits 7 to 4 of the word (R39, R232). -/
theorem flags_setReg16_af (s : State) (w : Word) :
    (s.setReg16 .af w).flags = ⟨w.getLsbD 7, w.getLsbD 6, w.getLsbD 5, w.getLsbD 4⟩ := by
  have hf : (s.setReg16 .af w).reg8 .f = loByte w &&& 0xF0#8 := by
    simp [State.reg8, State.setReg16, State.reg16, BitVec.and_assoc]
  unfold State.flags
  rw [hf]
  simp [loByte]

theorem popRows_encodes : ∀ row ∈ popRows, Encodes [row.1] row.2.1 12 12 := by decide

theorem popRows_ne : ∀ row ∈ popRows, row.2.2 ≠ .af ∧ row.2.2 ≠ .pc := by decide

theorem popRows_exec (s : State) : ∀ row ∈ popRows, exec row.2.1 s = popTo row.2.2 s := by
  simp [popRows]

/-- Settles O9: every row is a pop into its pair. -/
theorem popPair : Obligations.PopPair := by
  refine ⟨fun row hrow => ⟨(popRows_encodes row hrow).row, fun s w h => ?_, fun s f h => ?_⟩,
    Encodes.row ⟨rfl, rfl, rfl⟩, fun s w h => ⟨_, popTo_stacked .af h, rfl, flags_setReg16_af _ w⟩,
    fun s f h => popTo_fault .af h⟩
  · obtain ⟨haf, hpc⟩ := popRows_ne row hrow
    exact ⟨_, (popRows_exec s row hrow).trans (popTo_stacked _ h), setReg16_pairWritten _ w haf hpc⟩
  · exact (popRows_exec s row hrow).trans (popTo_fault _ h)

/-- An address above ROM and the one before it stand for different cells (R87). -/
theorem mirror_sub_one_ne {a : Word} (h : 0x8000 ≤ (a - 1).toNat) : mirror (a - 1) ≠ mirror (a - 2) := by
  have hprev : (a - 2).toNat = (a - 1).toNat - 1 := by bv_omega
  intro heq
  have hnat := congrArg BitVec.toNat heq
  rw [mirror_toNat, mirror_toNat, hprev] at hnat
  split at hnat <;> split at hnat <;> omega

theorem byteAt_eq_some {a : Word} {s : State} {v : Byte} : byteAt a s = some v ↔ memRead a s = .ok v := by
  unfold byteAt
  cases memRead a s <;> simp [Except.toOption]

/-- Both bytes of a push go to plain memory: above ROM, and to no register with an effect of its own (R85 to R90). -/
structure PlainStack (s : State) : Prop where
  highRam : 0x8000 ≤ (s.sp - 1).toNat
  lowRam : 0x8000 ≤ (s.sp - 2).toNat
  highNotJoyp : s.sp - 1 ≠ 0xFF00
  highNotDma : s.sp - 1 ≠ 0xFF46
  lowNotJoyp : s.sp - 2 ≠ 0xFF00
  lowNotDma : s.sp - 2 ≠ 0xFF46

theorem PlainStack.canPush {s : State} (h : PlainStack s) : CanPush s := ⟨.inl h.highRam, .inl h.lowRam⟩

/-- After a push into plain memory the word stands on the stack, the high byte at the higher address (R230, R231). -/
theorem PlainStack.stacked {s t : State} {w : Word} (h : PlainStack s) (hp : WordPushed w s t) :
    byteAt (s.sp - 1) t = some (hiByte w) ∧ byteAt (s.sp - 2) t = some (loByte w) := by
  obtain ⟨m, hfst, hsnd⟩ := hp.bytes
  have hhi : byteAt (s.sp - 1) m = some (hiByte w) := hfst.plain h.highRam h.highNotJoyp h.highNotDma _ rfl
  have hlo : byteAt (s.sp - 2) t = some (loByte w) := hsnd.plain h.lowRam h.lowNotJoyp h.lowNotDma _ rfl
  refine ⟨?_, hlo⟩
  rwa [hsnd.frame _ (mirror_sub_one_ne h.highRam), byteAt_with_sp]

theorem PlainStack.pop16_pushed {s t : State} {w : Word} (h : PlainStack s) (hp : WordPushed w s t)
    (k : Word → State → Result) : pop16 t k = k w { t with sp := s.sp } := by
  obtain ⟨hhi, hlo⟩ := h.stacked hp
  have hup : s.sp - 2 + 1 = s.sp - 1 := by bv_omega
  have hstacked : Stacked w t := by
    unfold Stacked
    rw [hp.pointer, hup]
    exact ⟨byteAt_eq_some.1 hlo, byteAt_eq_some.1 hhi⟩
  rw [pop16_stacked k hstacked, hp.pointer, BitVec.sub_add_cancel]

theorem PlainStack.popTo_pushed {s t : State} {w : Word} (h : PlainStack s) (r : Reg16) (hp : WordPushed w s t) :
    popTo r t = .next (({ t with sp := s.sp } : State).setReg16 r w) := h.pop16_pushed hp _

/-- Settles O10: the pushed word stands on the stack, and a pop from there hands it on. -/
theorem pushThenPopRestores : Obligations.PushThenPopRestores := by
  intro s w h1 h2 h3 h4 h5 h6
  have h : PlainStack s := ⟨h1, h2, h3, h4, h5, h6⟩
  have hpush (v : Word) : WordPushed v s (s.pushed v) := pushed_wordPushed v h.canPush
  obtain ⟨hhi, hlo⟩ := h.stacked (hpush w)
  refine ⟨⟨_, push16_of_canPush w h.canPush, (hpush w).pointer, hhi, hlo, h.pop16_pushed (hpush w)⟩, fun hf => ?_⟩
  have haf : s.reg16 .af &&& 0xFFF0 = s.af := (and_FFF0_of_low (reg16_af_low s)).trans (and_FFF0_of_low hf)
  exact ⟨_, _, push16_of_canPush _ h.canPush, h.popTo_pushed .af (hpush _), haf, rfl⟩

end Sys2Proof.Machine
end

section
/-! 8-bit arithmetic and logic (41_alu8.md R241 to R256). Each form of an operation on A is one of two shared
operations, `aluOn` on A and a byte or `stepOperand` on an operand, of which one lemma says what it leaves; the
arithmetic of each statement is a fact about the function that computes its result and flags. -/

namespace Sys2Proof.Machine

open Sys2Proof.Claims

/-! What is written: a register and the flags, or the flags alone (R32, R39). -/

theorem setFlags_flagsWritten (s : State) (g : Flags) : FlagsWritten g s (s.setFlags g) where
  frame := setFlags_whole s g
  acc := reg8_setFlags s g nofun
  flags := flags_setFlags s g

theorem setReg8_setFlags_written (s : State) {r : Reg8} (v : Byte) (g : Flags) (hr : r ≠ .f) :
    RegFlagsWritten r v g s ((s.setReg8 r v).setFlags g) := by
  obtain ⟨hframe, hvalue, hothers⟩ := setReg8_regWritten s v hr
  refine ⟨?_, ?_, flags_setFlags _ g, fun q hq hf => ?_⟩
  · rw [setFlags_whole, hframe]
  · rw [reg8_setFlags _ g hr, hvalue]
  · rw [reg8_setFlags _ g hf, hothers q hq]

/-! An operand is read where its byte is (R128). -/

theorem readOperandThen_atHl_ok {s : State} {v : Byte} (k : Byte → Result) (h : memRead s.hl s = .ok v) :
    readOperandThen .atHl s k = k v := (readOperandThen_atHl s k).trans (readThen_ok k h)

theorem readOperandThen_atHl_error {s : State} {f : Fault} (k : Byte → Result) (h : memRead s.hl s = .error f) :
    readOperandThen .atHl s k = .fault f := (readOperandThen_atHl s k).trans (readThen_error k h)

/-! The two-operand operations on A (R241 to R248). -/

/-- What A holds after a two-operand operation: its result, which CP does not write (R248). -/
def aluAcc (op : AluOp) (a b : Byte) (g : Flags) : Byte := if op = .cp then a else (alu8 op a b g).1

theorem aluOn_frame (op : AluOp) (b : Byte) (s : State) : aluOn op b s = { s with af := (aluOn op b s).af } := by
  cases op <;> rfl

theorem reg8_a_aluOn (op : AluOp) (b : Byte) (s : State) :
    (aluOn op b s).reg8 .a = aluAcc op (s.reg8 .a) b s.flags := by
  have ha : Reg8.a ≠ .f := nofun
  unfold aluOn aluAcc
  dsimp only
  split
  · rw [reg8_setFlags _ _ ha]
  · rw [reg8_setFlags _ _ ha, reg8_setReg8_self, if_neg ha]

theorem flags_aluOn (op : AluOp) (b : Byte) (s : State) :
    (aluOn op b s).flags = (alu8 op (s.reg8 .a) b s.flags).2 := by
  unfold aluOn
  dsimp only
  split <;> exact flags_setFlags _ _

/-- The register forms of each operation (the form table of 41_alu8.md). -/
def aluRows (op : AluOp) : List (Byte × Instr × Reg8) :=
  match op with
  | .add => addRows
  | .adc => adcRows
  | .sub => subRows
  | .sbc => sbcRows
  | .and => andRows
  | .xor => xorRows
  | .or => orRows
  | .cp => cpRows

theorem aluRows_encodes (op : AluOp) : ∀ row ∈ aluRows op, Encodes [row.1] row.2.1 4 4 := by
  cases op <;> decide

theorem aluRows_exec (op : AluOp) (s : State) :
    ∀ row ∈ aluRows op, exec row.2.1 s = aluOperand op (.reg row.2.2) s := by
  cases op <;> simp [aluRows, addRows, adcRows, subRows, sbcRows, andRows, xorRows, orRows, cpRows]

/-- The three forms of `op` follow from what `P` says of the result and the flags that `op` computes. That an opcode
encodes a form and that `exec` is the shared operation hold by unfolding, for each form. -/
theorem aluForms_of_exec (op : AluOp) {opHl opImm : Byte} {iHl : Instr} {iImm : Byte → Instr}
    {P : Byte → Byte → Flags → Byte → Flags → Prop}
    (hP : ∀ a b g, P a b g (aluAcc op a b g) (alu8 op a b g).2)
    (hrowHl : Encodes [opHl] iHl 8 8 := by exact ⟨rfl, rfl, rfl⟩)
    (hrowImm : ∀ n, Encodes [opImm, n] (iImm n) 8 8 := by exact fun _ => ⟨rfl, rfl, rfl⟩)
    (hexecHl : ∀ s, exec iHl s = aluOperand op .atHl s := by exact fun _ => rfl)
    (hexecImm : ∀ n s, exec (iImm n) s = .next (aluOn op n s) := by exact fun _ _ => rfl) :
    AluForms (aluRows op) opHl iHl opImm iImm P := by
  have hresult {i : Instr} {b : Byte} {s : State} (h : exec i s = .next (aluOn op b s)) : AluResult P i b s := by
    refine ⟨_, h, aluOn_frame op b s, ?_⟩
    rw [reg8_a_aluOn, flags_aluOn]
    exact hP _ _ _
  refine ⟨fun row hrow => ⟨(aluRows_encodes op row hrow).row, fun s => hresult (aluRows_exec op s row hrow)⟩,
    hrowHl.row, fun s b h => hresult ((hexecHl s).trans (readOperandThen_atHl_ok _ h)),
    fun s f h => (hexecHl s).trans (readOperandThen_atHl_error _ h),
    fun n => ⟨(hrowImm n).row, fun s => hresult (hexecImm n s)⟩⟩

theorem carryIn_eq_toNat (g : Flags) : carryIn g = g.c.toNat := by
  unfold carryIn
  cases g.c <;> rfl

theorem beq_zero_eq_decide (r : Byte) : (r == 0) = decide (r.toNat = 0) :=
  decide_eq_decide.2 BitVec.toNat_inj.symm

theorem addFlags_toNat (a b : Byte) (c : Nat) : (addFlags a b c).1.toNat = (a.toNat + b.toNat + c) % 256 :=
  BitVec.toNat_ofNat _ _

theorem addFlags_flags (a b : Byte) (c : Nat) :
    (addFlags a b c).2 = ⟨decide ((a.toNat + b.toNat + c) % 256 = 0), false,
      decide (a.toNat % 16 + b.toNat % 16 + c > 0xF), decide (a.toNat + b.toNat + c > 0xFF)⟩ := by
  rw [← addFlags_toNat, ← beq_zero_eq_decide]
  rfl

/-- Settles O11: the sum is taken over the integers, with the carry flag as 0 or 1 for ADC. -/
theorem addAndAdc : Obligations.AddAndAdc := by
  refine ⟨aluForms_of_exec .add fun a b _ => ⟨addFlags_toNat a b 0, addFlags_flags a b 0⟩,
    aluForms_of_exec .adc fun a b g => ?_⟩
  rw [← carryIn_eq_toNat]
  exact ⟨addFlags_toNat a b (carryIn g), addFlags_flags a b (carryIn g)⟩

theorem subFlags_toNat (a b : Byte) (c : Nat) :
    ((subFlags a b c).1.toNat : Int) = ((a.toNat : Int) - b.toNat - c) % 256 := by
  have hb := b.isLt
  unfold subFlags
  simp only [BitVec.toNat_sub, BitVec.toNat_ofNat]
  omega

theorem subFlags_flags (a b : Byte) (c : Nat) :
    (subFlags a b c).2 = ⟨decide (((a.toNat : Int) - b.toNat - c) % 256 = 0), true,
      decide (b.toNat % 16 + c > a.toNat % 16), decide (b.toNat + c > a.toNat)⟩ := by
  have hzero : ((subFlags a b c).1 == 0) = decide (((a.toNat : Int) - b.toNat - c) % 256 = 0) := by
    rw [beq_zero_eq_decide, ← subFlags_toNat]
    exact decide_eq_decide.2 Int.natCast_eq_zero.symm
  rw [← hzero]
  rfl

/-- Settles O12: the difference is taken over the integers, with the carry flag as 0 or 1 for SBC; CP keeps A. -/
theorem subtractAndCompare : Obligations.SubtractAndCompare := by
  have hval (a b : Byte) := subFlags_toNat a b 0
  have hflags (a b : Byte) := subFlags_flags a b 0
  simp only [Int.natCast_zero, Int.sub_zero, Nat.add_zero] at hval hflags
  refine ⟨aluForms_of_exec .sub fun a b _ => ⟨hval a b, hflags a b⟩,
    aluForms_of_exec .sbc fun a b g => ?_,
    aluForms_of_exec .cp fun a b _ => ⟨rfl, hflags a b⟩⟩
  rw [← carryIn_eq_toNat]
  exact ⟨subFlags_toNat a b (carryIn g), subFlags_flags a b (carryIn g)⟩

/-- Settles O13: the operations of the model are the bitwise ones. -/
theorem logicOperations : Obligations.LogicOperations :=
  ⟨aluForms_of_exec .and fun _ _ _ => ⟨fun _ _ => BitVec.getLsbD_and, rfl⟩,
    aluForms_of_exec .xor fun _ _ _ => ⟨fun _ _ => BitVec.getLsbD_xor, rfl⟩,
    aluForms_of_exec .or fun _ _ _ => ⟨fun _ _ => BitVec.getLsbD_or, rfl⟩⟩

/-! INC and DEC of a byte (R249 to R252). -/

/-- The forms of a step follow from their encodings, from the shared operation each is, and from the result and the
flags that `f` computes. -/
theorem stepForms_of_exec {regs : List (Byte × Instr × Reg8)} {opHl : Byte} {iHl : Instr} {next : Byte → Byte}
    {half : Byte → Bool} {sub : Bool} {f : Byte → Flags → Byte × Flags}
    (hrow : ∀ row ∈ regs, Encodes [row.1] row.2.1 4 4) (hne : ∀ row ∈ regs, row.2.2 ≠ .f)
    (hexec : ∀ s, ∀ row ∈ regs, exec row.2.1 s = stepOperand f (.reg row.2.2) s)
    (hrowHl : Encodes [opHl] iHl 12 12) (hexecHl : ∀ s, exec iHl s = stepOperand f .atHl s)
    (hf : ∀ v g, f v g = (next v, ⟨decide (next v = 0), sub, half v, g.c⟩)) :
    StepForms regs opHl iHl next half sub where
  reg row h := by
    refine ⟨(hrow row h).row, fun s => ⟨_, hexec s row h, ?_⟩⟩
    rw [hf]
    exact setReg8_setFlags_written s _ _ (hne row h)
  rowHl := hrowHl.row
  atHl s v h hw := by
    obtain ⟨m, hm, hstored⟩ := memWrite_byteStored (next v) hw
    refine ⟨m, _, ?_, hstored, setFlags_flagsWritten m _⟩
    rw [hexecHl, stepOperand, readOperandThen_atHl_ok _ h, hf, write8, hm, andThen_next]
  atHlFault s _ h := (hexecHl s).trans (readOperandThen_atHl_error _ h)

theorem lowNibble_toNat (v : Byte) : (v &&& 0xF).toNat = v.toNat % 16 :=
  (BitVec.toNat_and v 0xF).trans (Nat.and_two_pow_sub_one_eq_mod v.toNat 4)

theorem lowNibble_beq (v x : Byte) : (v &&& 0xF == x) = decide (v.toNat % 16 = x.toNat) := by
  rw [← lowNibble_toNat]
  exact decide_eq_decide.2 BitVec.toNat_inj.symm

theorem incFlags_eq (v : Byte) (g : Flags) : incFlags v g = (BitVec.ofNat 8 (v.toNat + 1),
    ⟨decide (BitVec.ofNat 8 (v.toNat + 1) = 0), false, decide (v.toNat % 16 = 15), g.c⟩) := by
  have hnext : v + 1 = BitVec.ofNat 8 (v.toNat + 1) := rfl
  unfold incFlags
  rw [lowNibble_beq, hnext]
  rfl

theorem decFlags_eq (v : Byte) (g : Flags) : decFlags v g = (BitVec.ofNat 8 (v.toNat + 255),
    ⟨decide (BitVec.ofNat 8 (v.toNat + 255) = 0), true, decide (v.toNat % 16 = 0), g.c⟩) := by
  have hnext : v - 1 = BitVec.ofNat 8 (v.toNat + 255) := by bv_omega
  unfold decFlags
  rw [lowNibble_beq, hnext]
  rfl

/-- Settles O14: both are one step of an operand, DEC adding 255 modulo 256. -/
theorem incrementAndDecrement : Obligations.IncrementAndDecrement :=
  ⟨stepForms_of_exec (by decide) (by decide) (by simp [incRows]) ⟨rfl, rfl, rfl⟩ (fun _ => rfl) incFlags_eq,
    stepForms_of_exec (by decide) (by decide) (by simp [decRows]) ⟨rfl, rfl, rfl⟩ (fun _ => rfl) decFlags_eq⟩

/-! Decimal adjustment (R253). -/

/-- The two parts of the correction share no bit, so that their disjunction is their sum. -/
theorem daaCorrection_toNat (p q : Prop) [Decidable p] [Decidable q] :
    ((if p then 0x60 else 0x00 : Byte) ||| (if q then 0x06 else 0x00)).toNat =
      (if p then 0x60 else 0) + (if q then 0x06 else 0) := by
  split <;> split <;> rfl

theorem daaFlags_afterAdd (a : Byte) {g : Flags} (hn : g.n = false) :
    (daaFlags a g).1.toNat = (a.toNat + (if g.c = true ∨ a.toNat > 0x99 then 0x60 else 0) +
      (if g.h = true ∨ a.toNat % 16 > 9 then 0x06 else 0)) % 256 ∧
    (daaFlags a g).2.c = decide (g.c = true ∨ a.toNat > 0x99) := by
  have hhigh : (g.c || decide (a.toNat > 0x99)) = decide (g.c = true ∨ a.toNat > 0x99) := by
    rw [Bool.decide_or, Bool.decide_eq_true]
  have hlow : (g.h || decide ((a &&& 0x0F).toNat > 0x09)) = decide (g.h = true ∨ a.toNat % 16 > 9) := by
    rw [Bool.decide_or, Bool.decide_eq_true, lowNibble_toNat]
  unfold daaFlags
  rw [hn, if_neg Bool.false_ne_true]
  simp only [hhigh, hlow, BitVec.toNat_add, daaCorrection_toNat, decide_eq_true_eq, Nat.add_assoc, and_true]

theorem daaFlags_afterSub (a : Byte) {g : Flags} (hn : g.n = true) :
    (daaFlags a g).1.toNat = (a.toNat + 256 - (if g.c then 0x60 else 0) - (if g.h then 0x06 else 0)) % 256 ∧
    (daaFlags a g).2.c = g.c := by
  unfold daaFlags
  rw [if_pos hn]
  simp only [BitVec.toNat_sub, daaCorrection_toNat]
  refine ⟨?_, trivial⟩
  split <;> split <;> omega

theorem daaFlags_znh (a : Byte) (g : Flags) : (daaFlags a g).2.z = decide ((daaFlags a g).1 = 0) ∧
    (daaFlags a g).2.n = g.n ∧ (daaFlags a g).2.h = false := by
  unfold daaFlags
  split <;> exact ⟨rfl, rfl, rfl⟩

/-- Settles O15: A and the flags are those `daaFlags` computes, in each of its two branches. -/
theorem decimalAdjust : Obligations.DecimalAdjust := by
  refine ⟨Encodes.row ⟨rfl, rfl, rfl⟩, fun s => ⟨_, rfl, rfl, ?_⟩⟩
  obtain ⟨-, hacc, hflags, -⟩ := setReg8_setFlags_written s (r := .a) (daaFlags (s.reg8 .a) s.flags).1
    (daaFlags (s.reg8 .a) s.flags).2 nofun
  rw [hacc, hflags]
  exact ⟨daaFlags_afterAdd _, daaFlags_afterSub _, daaFlags_znh _ _⟩

/-- Settles O16: CPL writes A's complement and the flags, SCF and CCF the flags alone. -/
theorem complementAndCarryFlags : Obligations.ComplementAndCarryFlags := by
  refine ⟨Encodes.row ⟨rfl, rfl, rfl⟩, Encodes.row ⟨rfl, rfl, rfl⟩, Encodes.row ⟨rfl, rfl, rfl⟩,
    fun s => ⟨?_, ⟨_, rfl, setFlags_flagsWritten s _⟩, ⟨_, rfl, setFlags_flagsWritten s _⟩⟩⟩
  refine ⟨_, ~~~(s.reg8 .a), rfl, fun k hk => ?_, setReg8_setFlags_written s _ _ nofun⟩
  rw [BitVec.getLsbD_not, decide_eq_true hk, Bool.true_and]

end Sys2Proof.Machine
end

section
/-! 16-bit arithmetic (42_alu16.md R271 to R273). ADD HL,rr is one shared operation on HL and the flags; INC rr and
DEC rr are one write of the pair and touch no flag. -/

namespace Sys2Proof.Machine

open Sys2Proof.Claims

/-! ADD HL,rr (R271). -/

theorem addHlRows_encodes : ∀ row ∈ addHlRows, Encodes [row.1] row.2.1 8 8 := by decide

theorem addHlRows_exec (s : State) : ∀ row ∈ addHlRows, exec row.2.1 s = addHl row.2.2 s := by
  simp [addHlRows]

theorem addHlFlags_toNat (a b : Word) (g : Flags) : (addHlFlags a b g).1.toNat = (a.toNat + b.toNat) % 65536 :=
  BitVec.toNat_add a b

/-- Settles O17: HL is written with the sum, then the flags, which leaves A as it was; Z is the one read before. -/
theorem addToHl : Obligations.AddToHl := by
  intro row hrow
  refine ⟨(addHlRows_encodes row hrow).row, fun s => ⟨_, addHlRows_exec s row hrow, rfl, ?_, ?_, flags_setFlags _ _⟩⟩
  · rw [setFlags_hl]
    exact addHlFlags_toNat s.hl (s.reg16 row.2.2) s.flags
  · exact reg8_setFlags _ _ nofun

/-! INC rr and DEC rr (R272, R273). -/

/-- A step of a pair is a write of that pair: what remains to know of its rows is their encoding, that none names AF or
PC, and the word written. -/
theorem stepPair_of_exec {rows : List (Byte × Instr × Reg16)} {next : Word → Word}
    (hrow : ∀ row ∈ rows, Encodes [row.1] row.2.1 8 8) (hne : ∀ row ∈ rows, row.2.2 ≠ .af ∧ row.2.2 ≠ .pc)
    (hexec : ∀ s, ∀ row ∈ rows, exec row.2.1 s = .next (s.setReg16 row.2.2 (next (s.reg16 row.2.2)))) :
    ∀ row ∈ rows, Row [row.1] row.2.1 8 8 ∧
      ∀ s, ∃ t, exec row.2.1 s = .next t ∧ PairWritten row.2.2 (next (s.reg16 row.2.2)) s t := by
  intro row h
  obtain ⟨haf, hpc⟩ := hne row h
  exact ⟨(hrow row h).row, fun s => ⟨_, hexec s row h, setReg16_pairWritten s _ haf hpc⟩⟩

theorem incPairRows_exec (s : State) :
    ∀ row ∈ incPairRows, exec row.2.1 s = .next (s.setReg16 row.2.2 (s.reg16 row.2.2 + 1)) := by
  simp [incPairRows]

theorem decPairRows_exec (s : State) :
    ∀ row ∈ decPairRows, exec row.2.1 s = .next (s.setReg16 row.2.2 (s.reg16 row.2.2 - 1)) := by
  simp [decPairRows]

/-- Settles O18: every row writes its pair with the word before it plus or minus 1, and a write of BC, DE, HL or SP
leaves AF alone. -/
theorem incrementAndDecrementPair : Obligations.IncrementAndDecrementPair :=
  ⟨stepPair_of_exec (next := (· + 1)) (by decide) (by decide) incPairRows_exec,
    stepPair_of_exec (next := (· - 1)) (by decide) (by decide) decPairRows_exec⟩

end Sys2Proof.Machine
end

section
/-! Rotates, shifts and bit operations (43_rotate_shift_bit.md R281 to R297). Each family is one shared operation
(`rotateA`, `rotateOperand`, `bitOperand`, `mapOperand`), of which one lemma gives the forms; what a statement says of
the bits is a fact about the function that computes the result (`rotate`, `resBit`, `setBit`). -/

namespace Sys2Proof.Machine

open Sys2Proof.Claims

/-! The bits of a rotated or shifted byte: a shift by one place, joined with the bit that comes in. -/

/-- The bit that comes in at the right is bit 0 of `m`. -/
theorem shiftedLeft_or (v : Byte) {m : Byte} (hm : ∀ k < 7, m.getLsbD (k + 1) = false) :
    ShiftedLeft v (m.getLsbD 0) (v <<< 1 ||| m) (v.getLsbD 7) := by
  refine ⟨rfl, by simp, fun k hk => ?_⟩
  have hin : k + 1 < 8 := by omega
  rw [BitVec.getLsbD_or, hm k hk, BitVec.getLsbD_shiftLeft]
  simp [hin]

/-- The bit that comes in at the left is bit 7 of `m`. -/
theorem shiftedRight_or (v : Byte) {m : Byte} (hm : ∀ k < 7, m.getLsbD k = false) :
    ShiftedRight v (m.getLsbD 7) (v >>> 1 ||| m) (v.getLsbD 0) := by
  refine ⟨rfl, by simp, fun k hk => ?_⟩
  rw [BitVec.getLsbD_or, hm k hk, BitVec.getLsbD_ushiftRight, Bool.or_false, Nat.add_comm]

theorem rotate_rlc (v : Byte) (c : Bool) :
    ShiftedLeft v (v.getLsbD 7) (rotate .rlc v c).1 (rotate .rlc v c).2 := by
  have hm (k : Nat) : (v >>> 7).getLsbD k = v.getLsbD (7 + k) := BitVec.getLsbD_ushiftRight v 7 k
  have h := shiftedLeft_or v fun k _ => (hm (k + 1)).trans (BitVec.getLsbD_of_ge v _ (by omega))
  rwa [hm] at h

theorem rotate_rrc (v : Byte) (c : Bool) :
    ShiftedRight v (v.getLsbD 0) (rotate .rrc v c).1 (rotate .rrc v c).2 := by
  have h := shiftedRight_or v (m := v <<< 7) fun k hk => by simp [hk]
  rwa [BitVec.getLsbD_shiftLeft] at h

theorem rotate_rl (v : Byte) (c : Bool) : ShiftedLeft v c (rotate .rl v c).1 (rotate .rl v c).2 := by
  cases c with
  | false => exact shiftedLeft_or v (m := 0x00) (by decide)
  | true => exact shiftedLeft_or v (m := 0x01) (by decide)

theorem rotate_rr (v : Byte) (c : Bool) : ShiftedRight v c (rotate .rr v c).1 (rotate .rr v c).2 := by
  cases c with
  | false => exact shiftedRight_or v (m := 0x00) (by decide)
  | true => exact shiftedRight_or v (m := 0x80) (by decide)

theorem rotate_sla (v : Byte) (c : Bool) : ShiftedLeft v false (rotate .sla v c).1 (rotate .sla v c).2 := by
  have h := shiftedLeft_or v (m := 0#8) (by decide)
  rwa [BitVec.or_zero] at h

theorem rotate_sra (v : Byte) (c : Bool) :
    ShiftedRight v (v.getLsbD 7) (rotate .sra v c).1 (rotate .sra v c).2 := by
  have hlow : ∀ k < 7, (0x80 : Byte).getLsbD k = false := by decide
  have h := shiftedRight_or v (m := v &&& 0x80) fun k hk => by rw [BitVec.getLsbD_and, hlow k hk, Bool.and_false]
  have htop : (v &&& 0x80).getLsbD 7 = v.getLsbD 7 := by simp
  rwa [htop] at h

theorem rotate_srl (v : Byte) (c : Bool) : ShiftedRight v false (rotate .srl v c).1 (rotate .srl v c).2 := by
  have h := shiftedRight_or v (m := 0#8) (by decide)
  rwa [BitVec.or_zero] at h

theorem rotate_swap (v : Byte) (c : Bool) : (rotate .swap v c).2 = false ∧
    ∀ k < 8, (rotate .swap v c).1.getLsbD k = v.getLsbD ((k + 4) % 8) := by
  refine ⟨rfl, fun k hk => ?_⟩
  change ((v <<< 4) ||| (v >>> 4)).getLsbD k = _
  rw [BitVec.getLsbD_or, BitVec.getLsbD_shiftLeft, BitVec.getLsbD_ushiftRight]
  by_cases hlow : k < 4
  · have hmod : (k + 4) % 8 = 4 + k := by omega
    simp [hlow, hmod]
  · have hmod : (k + 4) % 8 = k - 4 := by omega
    have hout : v.getLsbD (4 + k) = false := BitVec.getLsbD_of_ge v _ (by omega)
    simp [hlow, hk, hmod, hout]

/-! The accumulator rotates (R281 to R284). -/

theorem rotatesAcc_of_exec (op : RotOp) {byte : Byte} {i : Instr} {P : Byte → Bool → Byte → Bool → Prop}
    (hP : ∀ v c, P v c (rotate op v c).1 (rotate op v c).2) (hrow : Encodes [byte] i 4 4)
    (hexec : ∀ s, exec i s = .next (rotateA op s)) : RotatesAcc byte i P :=
  ⟨hrow.row, fun s => ⟨_, _, _, hexec s, hP _ _, setReg8_setFlags_written s _ _ nofun⟩⟩

/-- Settles O19: each is `rotateA`, which writes A with the rotated byte and then the flags. -/
theorem rotateAccumulator : Obligations.RotateAccumulator :=
  ⟨rotatesAcc_of_exec .rlc rotate_rlc ⟨rfl, rfl, rfl⟩ fun _ => rfl,
    rotatesAcc_of_exec .rrc rotate_rrc ⟨rfl, rfl, rfl⟩ fun _ => rfl,
    rotatesAcc_of_exec .rl rotate_rl ⟨rfl, rfl, rfl⟩ fun _ => rfl,
    rotatesAcc_of_exec .rr rotate_rr ⟨rfl, rfl, rfl⟩ fun _ => rfl⟩

/-! The rotates and shifts of the CB map (R286 to R293). -/

/-- The register forms of each rotate or shift: second byte, instruction, register. -/
def rotateRows (op : RotOp) : List (Byte × Instr × Reg8) :=
  match op with
  | .rlc => rlcRows
  | .rrc => rrcRows
  | .rl => rlRows
  | .rr => rrRows
  | .sla => slaRows
  | .sra => sraRows
  | .swap => swapRows
  | .srl => srlRows

/-- The (HL) form of each rotate or shift: second byte, instruction. -/
def rotateAtHlRow (op : RotOp) : Byte × Instr :=
  match op with
  | .rlc => (0x06, .rlcAtHl)
  | .rrc => (0x0E, .rrcAtHl)
  | .rl => (0x16, .rlAtHl)
  | .rr => (0x1E, .rrAtHl)
  | .sla => (0x26, .slaAtHl)
  | .sra => (0x2E, .sraAtHl)
  | .swap => (0x36, .swapAtHl)
  | .srl => (0x3E, .srlAtHl)

theorem rotateRows_encodes (op : RotOp) : ∀ row ∈ rotateRows op, Encodes [0xCB, row.1] row.2.1 8 8 := by
  cases op <;> decide

theorem rotateRows_reg_ne_f (op : RotOp) : ∀ row ∈ rotateRows op, row.2.2 ≠ .f := by
  cases op <;> decide

theorem rotateRows_exec (op : RotOp) (s : State) :
    ∀ row ∈ rotateRows op, exec row.2.1 s = rotateOperand op (.reg row.2.2) s := by
  cases op <;> simp [rotateRows, rlcRows, rrcRows, rlRows, rrRows, slaRows, sraRows, swapRows, srlRows]

theorem rotateAtHlRow_encodes (op : RotOp) : Encodes [0xCB, (rotateAtHlRow op).1] (rotateAtHlRow op).2 16 16 := by
  cases op <;> decide

theorem rotateAtHlRow_exec (op : RotOp) (s : State) : exec (rotateAtHlRow op).2 s = rotateOperand op .atHl s := by
  cases op <;> rfl

/-- A rotate or shift through HL stores the result, then writes the flags. -/
theorem rotateOperand_atHl (op : RotOp) {s : State} {v : Byte} (h : memRead s.hl s = .ok v) (hw : Writable s s.hl) :
    ∃ m t, rotateOperand op .atHl s = .next t ∧ ByteStored s.hl (rotate op v s.flags.c).1 s m ∧
      FlagsWritten ⟨decide ((rotate op v s.flags.c).1 = 0), false, false, (rotate op v s.flags.c).2⟩ m t := by
  obtain ⟨m, hm, hstored⟩ := memWrite_byteStored (rotate op v s.flags.c).1 hw
  refine ⟨m, _, ?_, hstored, setFlags_flagsWritten m _⟩
  rw [rotateOperand, readOperandThen_atHl_ok _ h]
  exact (congrArg (andThen · _) hm).trans (andThen_next _ _)

/-- The forms of `op` follow from what `P` says of the result and the carry that `op` computes. -/
theorem rotateForms_of_rotate (op : RotOp) {P : Byte → Bool → Byte → Bool → Prop}
    (hP : ∀ v c, P v c (rotate op v c).1 (rotate op v c).2) :
    RotateForms (rotateRows op) (rotateAtHlRow op).1 (rotateAtHlRow op).2 P where
  reg row hrow := by
    refine ⟨(rotateRows_encodes op row hrow).row, fun s => ⟨_, _, _, rotateRows_exec op s row hrow, hP _ _, ?_⟩⟩
    exact setReg8_setFlags_written s _ _ (rotateRows_reg_ne_f op row hrow)
  rowHl := (rotateAtHlRow_encodes op).row
  atHl s v h hw := by
    obtain ⟨m, t, ht, hstored, hflags⟩ := rotateOperand_atHl op h hw
    exact ⟨m, t, _, _, (rotateAtHlRow_exec op s).trans ht, hP _ _, hstored, hflags⟩
  atHlFault s _ h := (rotateAtHlRow_exec op s).trans (readOperandThen_atHl_error _ h)

/-- Settles O20: a rotate is a shift by one place joined with the bit shifted out or the old carry. -/
theorem rotateOperand_forms : Obligations.RotateOperand :=
  ⟨rotateForms_of_rotate .rlc rotate_rlc, rotateForms_of_rotate .rrc rotate_rrc,
    rotateForms_of_rotate .rl rotate_rl, rotateForms_of_rotate .rr rotate_rr⟩

/-- Settles O21: a shift joins a clear bit or the old bit 7, and SWAP moves each bit four places. -/
theorem shiftOperand : Obligations.ShiftOperand :=
  ⟨rotateForms_of_rotate .sla rotate_sla, rotateForms_of_rotate .sra rotate_sra,
    rotateForms_of_rotate .swap rotate_swap, rotateForms_of_rotate .srl rotate_srl⟩

/-! BIT (R295). -/

theorem bitRows_encodes : ∀ row ∈ bitRows, Encodes [0xCB, row.1] row.2.1 8 8 := by decide

theorem bitRows_exec (s : State) :
    ∀ row ∈ bitRows, exec row.2.1 s = bitOperand row.2.2.1 (.reg row.2.2.2) s := by
  simp [bitRows]

theorem bitAtHlRows_encodes : ∀ row ∈ bitAtHlRows, Encodes [0xCB, row.1] row.2.1 12 12 := by decide

theorem bitAtHlRows_exec (s : State) : ∀ row ∈ bitAtHlRows, exec row.2.1 s = bitOperand row.2.2 .atHl s := by
  simp [bitAtHlRows]

/-- Settles O22: every row is `bitOperand`, which reads its operand and writes the flags alone. -/
theorem testBit : Obligations.TestBit := by
  refine ⟨fun row hrow => ⟨(bitRows_encodes row hrow).row, fun s =>
      ⟨_, bitRows_exec s row hrow, setFlags_flagsWritten s _⟩⟩,
    fun row hrow => ⟨(bitAtHlRows_encodes row hrow).row, fun s v h => ?_, fun s f h => ?_⟩⟩
  · exact ⟨_, (bitAtHlRows_exec s row hrow).trans (readOperandThen_atHl_ok _ h), setFlags_flagsWritten s _⟩
  · exact (bitAtHlRows_exec s row hrow).trans (readOperandThen_atHl_error _ h)

/-! RES and SET (R296, R297). -/

theorem getLsbD_one_shiftLeft {b k : Nat} (hk : k < 8) : (1#8 <<< b).getLsbD k = decide (k = b) := by
  rw [← BitVec.twoPow_eq, BitVec.getLsbD_twoPow]
  by_cases h : b = k
  · simp [h, hk]
  · simp [h, Ne.symm h]

theorem getLsbD_resBit (b : Nat) (v : Byte) {k : Nat} (hk : k < 8) :
    (resBit b v).getLsbD k = if k = b then false else v.getLsbD k := by
  rw [resBit, BitVec.getLsbD_and, BitVec.getLsbD_not, getLsbD_one_shiftLeft hk]
  split <;> simp [*]

theorem getLsbD_setBit (b : Nat) (v : Byte) {k : Nat} (hk : k < 8) :
    (setBit b v).getLsbD k = if k = b then true else v.getLsbD k := by
  rw [setBit, BitVec.getLsbD_or, getLsbD_one_shiftLeft hk]
  split <;> simp [*]

/-- The forms of RES and SET follow from their encodings, from the shared operation each is, and from the bits of the
byte that `f` computes. -/
theorem bitForms_of_exec {regs : List (Byte × Instr × Nat × Reg8)} {hls : List (Byte × Instr × Nat)} {x : Bool}
    {f : Nat → Byte → Byte} (hf : ∀ b v {k}, k < 8 → (f b v).getLsbD k = if k = b then x else v.getLsbD k)
    (hrow : ∀ row ∈ regs, Encodes [0xCB, row.1] row.2.1 8 8) (hne : ∀ row ∈ regs, row.2.2.2 ≠ .f)
    (hexec : ∀ s, ∀ row ∈ regs, exec row.2.1 s = mapOperand (f row.2.2.1) (.reg row.2.2.2) s)
    (hrowHl : ∀ row ∈ hls, Encodes [0xCB, row.1] row.2.1 16 16)
    (hexecHl : ∀ s, ∀ row ∈ hls, exec row.2.1 s = mapOperand (f row.2.2) .atHl s) :
    BitForms regs hls x where
  reg row h :=
    ⟨(hrow row h).row, fun s => ⟨_, _, hexec s row h, fun _ => hf _ _, setReg8_regWritten s _ (hne row h)⟩⟩
  atHl row h := by
    refine ⟨(hrowHl row h).row, fun s v hv hw => ?_⟩
    obtain ⟨t, ht, hstored⟩ := memWrite_byteStored (f row.2.2 v) hw
    exact ⟨t, _, ((hexecHl s row h).trans (readOperandThen_atHl_ok _ hv)).trans ht, fun _ => hf _ _, hstored⟩
  atHlFault row h s _ hv := (hexecHl s row h).trans (readOperandThen_atHl_error _ hv)

theorem resRows_encodes : ∀ row ∈ resRows, Encodes [0xCB, row.1] row.2.1 8 8 := by decide

theorem resRows_exec (s : State) :
    ∀ row ∈ resRows, exec row.2.1 s = mapOperand (resBit row.2.2.1) (.reg row.2.2.2) s := by
  simp [resRows]

theorem setRows_encodes : ∀ row ∈ setRows, Encodes [0xCB, row.1] row.2.1 8 8 := by decide

theorem setRows_exec (s : State) :
    ∀ row ∈ setRows, exec row.2.1 s = mapOperand (setBit row.2.2.1) (.reg row.2.2.2) s := by
  simp [setRows]

/-- Settles O23: every row is `mapOperand`, which writes its operand once and no flag. -/
theorem resetAndSetBit : Obligations.ResetAndSetBit :=
  ⟨bitForms_of_exec getLsbD_resBit resRows_encodes (by decide) resRows_exec (by decide) (by simp [resAtHlRows]),
    bitForms_of_exec getLsbD_setBit setRows_encodes (by decide) setRows_exec (by decide) (by simp [setAtHlRows])⟩

end Sys2Proof.Machine
end

section
/-! Control transfer (44_control.md R311 to R323). A conditional row tests its condition once, for its cost and for its
effect; a call is a push of PC and a return is a pop of it. -/

namespace Sys2Proof.Machine

open Sys2Proof.Claims

/-! Jumps (R311, R313, R314). -/

/-- Settles O24: each form writes PC alone, JR with the sum of PC and the sign-extended operand. -/
theorem jump : Obligations.Jump := by
  refine ⟨fun lo hi => ⟨row_word (fun _ => ⟨rfl, rfl, rfl⟩) lo hi, fun _ => rfl⟩,
    ⟨Encodes.row ⟨rfl, rfl, rfl⟩, fun _ => rfl⟩, fun n => ⟨Encodes.row ⟨rfl, rfl, rfl⟩, fun s => ?_⟩⟩
  rw [← sext16_eq_signExtend]
  rfl

/-! Conditional rows (R127, R312, R315, R317, R319). -/

/-- `i` is a conditional row: it tests one condition, which holds where `test` does, and means `op` of it (R416). -/
def Conditional (i : Instr) (test : State → Bool) (op : Cond → State → Result) : Prop :=
  ∃ cc, conditionOf i = some cc ∧ condHolds cc = test ∧ ∀ s, exec i s = op cc s

theorem taken_of_conditionOf {i : Instr} {cc : Cond} (h : conditionOf i = some cc) (s : State) :
    taken i s = condHolds cc s := by
  unfold taken
  rw [h]

theorem jpIfRows_encodes (w : Word) :
    ∀ row ∈ jpIfRows, Encodes [row.1, loByte w, hiByte w] (row.2.1 w) 16 12 := by
  simp only [jpIfRows, List.forall_mem_cons, List.not_mem_nil, false_imp_iff, implies_true, and_true]
  and_intros <;> rfl

theorem jpIfRows_conditional (w : Word) :
    ∀ row ∈ jpIfRows, Conditional (row.2.1 w) row.2.2 fun cc => jumpIf cc w := by
  simp only [jpIfRows, List.forall_mem_cons, List.not_mem_nil, false_imp_iff, implies_true, and_true]
  and_intros <;> exact ⟨_, rfl, rfl, fun _ => rfl⟩

theorem jrIfRows_encodes (n : Byte) : ∀ row ∈ jrIfRows, Encodes [row.1, n] (row.2.1 n) 12 8 := by
  simp only [jrIfRows, List.forall_mem_cons, List.not_mem_nil, false_imp_iff, implies_true, and_true]
  and_intros <;> rfl

theorem jrIfRows_conditional (n : Byte) :
    ∀ row ∈ jrIfRows, Conditional (row.2.1 n) row.2.2 fun cc s => jumpIf cc (s.pc + sext16 n) s := by
  simp only [jrIfRows, List.forall_mem_cons, List.not_mem_nil, false_imp_iff, implies_true, and_true]
  and_intros <;> exact ⟨_, rfl, rfl, fun _ => rfl⟩

/-- Settles O25: every row is `jumpIf` of the condition it is taken on, JR's target relative to PC. -/
theorem jumpIfCondition : Obligations.JumpIfCondition := by
  refine ⟨fun row hrow lo hi => ⟨row_word (fun w => jpIfRows_encodes w row hrow) lo hi, fun s => ?_⟩,
    fun row hrow n => ⟨(jrIfRows_encodes n row hrow).row, fun s => ?_⟩⟩
  · obtain ⟨cc, hcond, htest, hexec⟩ := jpIfRows_conditional (hi ++ lo) row hrow
    rw [← htest]
    exact ⟨taken_of_conditionOf hcond s, hexec s⟩
  · obtain ⟨cc, hcond, htest, hexec⟩ := jrIfRows_conditional n row hrow
    rw [← htest, ← sext16_eq_signExtend]
    exact ⟨taken_of_conditionOf hcond s, hexec s⟩

/-! Calls (R316, R317, R320, R322). -/

/-- A call that can be made pushes PC as it stands and jumps (R322). -/
theorem callSub_wordPushed {s : State} (a : Word) (h : CanPush s) :
    ∃ u, WordPushed s.pc s u ∧ callSub a s = .next { u with pc := a } := by
  refine ⟨s.pushed s.pc, pushed_wordPushed s.pc h, ?_⟩
  unfold callSub
  rw [push16_of_canPush s.pc h, andThen_next]

theorem callIf_of_holds {cc : Cond} {s : State} (a : Word) (h : condHolds cc s = true) :
    callIf cc a s = callSub a s := if_pos h

theorem callIf_of_fails {cc : Cond} {s : State} (a : Word) (h : condHolds cc s = false) :
    callIf cc a s = .next s := if_neg (by simp [h])

theorem callIfRows_encodes (w : Word) :
    ∀ row ∈ callIfRows, Encodes [row.1, loByte w, hiByte w] (row.2.1 w) 24 12 := by
  simp only [callIfRows, List.forall_mem_cons, List.not_mem_nil, false_imp_iff, implies_true, and_true]
  and_intros <;> rfl

theorem callIfRows_conditional (w : Word) :
    ∀ row ∈ callIfRows, Conditional (row.2.1 w) row.2.2 fun cc => callIf cc w := by
  simp only [callIfRows, List.forall_mem_cons, List.not_mem_nil, false_imp_iff, implies_true, and_true]
  and_intros <;> exact ⟨_, rfl, rfl, fun _ => rfl⟩

theorem rstRows_encodes : ∀ row ∈ rstRows, Encodes [row.1] row.2.1 16 16 := by decide

theorem rstRows_exec (s : State) : ∀ row ∈ rstRows, exec row.2.1 s = callSub row.2.2 s := by
  simp [rstRows]

/-- Settles O26: CALL, RST and a CALL cc whose condition holds are `call_sub`, a push of PC and a jump. -/
theorem callSubroutine : Obligations.CallSubroutine := by
  refine ⟨fun lo hi => ⟨row_word (fun _ => ⟨rfl, rfl, rfl⟩) lo hi, fun s => callSub_wordPushed (hi ++ lo)⟩,
    fun row hrow lo hi => ⟨row_word (fun w => callIfRows_encodes w row hrow) lo hi, fun s => ?_⟩,
    fun row hrow => ⟨(rstRows_encodes row hrow).row, fun s h => ?_⟩⟩
  · obtain ⟨cc, hcond, htest, hexec⟩ := callIfRows_conditional (hi ++ lo) row hrow
    rw [← htest, hexec]
    refine ⟨taken_of_conditionOf hcond s, fun hholds h => ?_, callIf_of_fails _⟩
    obtain ⟨u, hpushed, hcall⟩ := callSub_wordPushed (hi ++ lo) h
    exact ⟨u, hpushed, (callIf_of_holds _ hholds).trans hcall⟩
  · rw [rstRows_exec s row hrow]
    exact callSub_wordPushed row.2.2 h

/-! Returns (R318, R319, R321, R323). -/

theorem retSub_stacked {s : State} {w : Word} (h : Stacked w s) :
    retSub s = .next { s with sp := s.sp + 2, pc := w } := pop16_stacked _ h

theorem retSub_fault {s : State} {f : Fault} (h : PopFaults f s) : retSub s = .fault f := pop16_fault _ h

/-- RETI is a return that then sets IME (R321, R426). -/
theorem returnFromInterrupt_stacked {s : State} {w : Word} (h : Stacked w s) :
    returnFromInterrupt s = .next { s with sp := s.sp + 2, pc := w, ime := true } := by
  unfold returnFromInterrupt
  rw [retSub_stacked h, andThen_next]

theorem returnFromInterrupt_fault {s : State} {f : Fault} (h : PopFaults f s) :
    returnFromInterrupt s = .fault f := by
  unfold returnFromInterrupt
  rw [retSub_fault h, andThen_fault]

theorem retIf_of_holds {cc : Cond} {s : State} (h : condHolds cc s = true) : retIf cc s = retSub s := if_pos h

theorem retIf_of_fails {cc : Cond} {s : State} (h : condHolds cc s = false) : retIf cc s = .next s :=
  if_neg (by simp [h])

theorem retIfRows_encodes : ∀ row ∈ retIfRows, Encodes [row.1] row.2.1 20 8 := by decide

theorem retIfRows_conditional : ∀ row ∈ retIfRows, Conditional row.2.1 row.2.2 retIf := by
  simp only [retIfRows, List.forall_mem_cons, List.not_mem_nil, false_imp_iff, implies_true, and_true]
  and_intros <;> exact ⟨_, rfl, rfl, fun _ => rfl⟩

/-- Settles O27: RET and a RET cc whose condition holds are `ret_sub`, a pop into PC; RETI sets IME after it. -/
theorem returnFromSubroutine : Obligations.ReturnFromSubroutine := by
  refine ⟨⟨Encodes.row ⟨rfl, rfl, rfl⟩, fun _ _ => retSub_stacked, fun _ _ => retSub_fault⟩,
    ⟨Encodes.row ⟨rfl, rfl, rfl⟩, fun _ _ => returnFromInterrupt_stacked, fun _ _ => returnFromInterrupt_fault⟩,
    fun row hrow => ⟨(retIfRows_encodes row hrow).row, fun s => ?_⟩⟩
  obtain ⟨cc, hcond, htest, hexec⟩ := retIfRows_conditional row hrow
  rw [← htest, hexec]
  exact ⟨taken_of_conditionOf hcond s, fun hholds _ h => (retIf_of_holds hholds).trans (retSub_stacked h),
    fun hholds _ h => (retIf_of_holds hholds).trans (retSub_fault h), retIf_of_fails⟩

end Sys2Proof.Machine
end

section
/-! System instructions (45_system.md R331 to R337). A byte of the CB map names by its fields the shared operation that
its row is, and the prefix row is that operation; each other row changes one field, adds to the log or is refused. -/

namespace Sys2Proof.Machine

open Sys2Proof.Claims

/-! The prefix row (R336). -/

/-- Each row of the CB map is the operation that the fields of its byte name (R123, R133, R285). -/
theorem cbRows_exec (s : State) : ∀ row ∈ cbRows.zipIdx, ∀ p ∈ row.1.zipIdx,
    exec p.1 s = selectCb (BitVec.ofNat 8 (16 * row.2 + p.2)) s := by
  simp only [cbRows, cbRow0, cbRow1, cbRow2, cbRow3, cbRow4, cbRow5, cbRow6, cbRow7, cbRow8, cbRow9, cbRowA, cbRowB,
    cbRowC, cbRowD, cbRowE, cbRowF, List.zipIdx_cons, List.zipIdx_nil, List.forall_mem_cons, List.not_mem_nil,
    false_imp_iff, implies_true, and_true]
  and_intros <;> rfl

theorem exec_of_cbInstr? {b : Byte} {i : Instr} (h : cbInstr? b = some i) (s : State) : exec i s = selectCb b s := by
  rw [cbInstr?_eq_gridCell?, gridCell?, Option.bind_eq_some_iff] at h
  obtain ⟨row, hrow, hi⟩ := h
  have hexec := cbRows_exec s (row, _) (List.mem_zipIdx_iff_getElem?.2 hrow) (i, _) (List.mem_zipIdx_iff_getElem?.2 hi)
  rwa [Nat.div_add_mod, BitVec.ofNat_toNat, BitVec.setWidth_eq] at hexec

theorem readOperandThen_next {o : Operand8} {s : State} {k : Byte → Result} (hr : Readable s s.hl)
    (hk : ∀ v, ∃ t, k v = .next t) : ∃ t, readOperandThen o s k = .next t := by
  cases o with
  | reg r => exact hk (s.reg8 r)
  | atHl =>
    rw [readOperandThen_atHl_ok k (memRead_ok hr)]
    exact hk _

theorem write8_next (o : Operand8) (v : Byte) {s : State} (hw : Writable s s.hl) : ∃ t, write8 o v s = .next t := by
  cases o with
  | reg r => exact ⟨_, rfl⟩
  | atHl => exact ⟨_, memWrite_next v hw⟩

theorem rotateOperand_next (op : RotOp) (o : Operand8) {s : State} (hr : Readable s s.hl) (hw : Writable s s.hl) :
    ∃ t, rotateOperand op o s = .next t := by
  refine readOperandThen_next hr fun v => ?_
  obtain ⟨m, hm⟩ := write8_next o (rotate op v s.flags.c).1 hw
  exact ⟨_, andThen_eq_next.2 ⟨m, hm, rfl⟩⟩

theorem bitOperand_next (b : Nat) (o : Operand8) {s : State} (hr : Readable s s.hl) :
    ∃ t, bitOperand b o s = .next t :=
  readOperandThen_next hr fun _ => ⟨_, rfl⟩

theorem mapOperand_next (f : Byte → Byte) (o : Operand8) {s : State} (hr : Readable s s.hl) (hw : Writable s s.hl) :
    ∃ t, mapOperand f o s = .next t :=
  readOperandThen_next hr fun v => write8_next o (f v) hw

/-- No CB row faults or is refused where the byte at HL can be read and written. -/
theorem selectCb_next (b : Byte) {s : State} (hr : Readable s s.hl) (hw : Writable s s.hl) :
    ∃ t, selectCb b s = .next t := by
  unfold selectCb
  dsimp only
  split
  · exact rotateOperand_next _ _ hr hw
  · exact bitOperand_next _ _ hr
  · exact mapOperand_next _ _ hr hw
  · exact mapOperand_next _ _ hr hw

/-- Settles O31: the CB map has an instruction for each byte, and it is the operation the byte's fields name. -/
theorem prefixSelectsCbRow : Obligations.PrefixSelectsCbRow := by
  intro b1
  obtain ⟨i, hi⟩ := Option.isSome_iff_exists.1 (cbInstr?_isSome b1)
  obtain ⟨hwf, henc⟩ := cbInstr?_encode hi
  have hdec : decode [0xCB, b1] = .ok i := by simpa [henc] using decodeEncode i [] hwf
  exact ⟨i, hdec, hwf, henc, fun s => ⟨(exec_of_cbInstr? hi s).symm, selectCb_next b1⟩⟩

/-! NOP, HALT, DI, EI (R331, R332, R334, R335). -/

/-- With IME clear no source is dispatched, whatever is pending (R411, R423). -/
theorem interruptToTake_of_not_ime {s : State} (h : s.ime = false) : interruptToTake s = none :=
  if_neg (by simp [h])

/-- Settles O28: each sets one field or none, and DI clears the one the priority test asks for. -/
theorem nopHaltDiEi : Obligations.NopHaltDiEi :=
  ⟨Encodes.row ⟨rfl, rfl, rfl⟩, Encodes.row ⟨rfl, rfl, rfl⟩, Encodes.row ⟨rfl, rfl, rfl⟩,
    Encodes.row ⟨rfl, rfl, rfl⟩,
    fun s => ⟨exec_nop s, exec_halt s, ⟨exec_di s, interruptToTake_of_not_ime rfl⟩, exec_ei s⟩⟩

/-! STOP (R333). -/

theorem fetch8_ok {s : State} {b : Byte} (h : memRead s.pc s = .ok b) :
    fetch8 s = .ok (b, { s with pc := s.pc + 1 }) := by
  unfold fetch8
  rw [h]

/-- The fetch of an opcode without operand bytes leaves PC past that one byte (R134, R412). -/
theorem fetchInstr_opcode {s : State} {op : Byte} {i : Instr} (h : memRead s.pc s = .ok op)
    (hcount : operandCount op = 0) (hdec : decode [op] = .ok i) :
    fetchInstr s = .ok (i, { s with pc := s.pc + 1 }) := by
  unfold fetchInstr
  rw [fetch8_ok h]
  simp only [hcount, fetchBytes, hdec]

/-- At a boundary the CPU's tick is step 4 (R409 to R412). -/
theorem cpuTick_atBoundary {s : State} (h : AtBoundary s) : cpuTick s = fetchExecute s := by
  obtain ⟨hhalted, hstall, hnone⟩ := h
  simp [cpuTick, stallStep, interruptStep, hhalted, hstall, hnone]

/-- A tick whose memory tick ends at a boundary runs step 4 there, then the later phases (R401). -/
theorem step_atBoundary {s m : State} (hquit : s.nextDraw.quit = false) (hmem : memoryTick s = .next m)
    (hb : AtBoundary m) : step s = andThen (fetchExecute m) laterPhases := by
  simp [step, consoleTick, hquit, hmem, cpuTick_atBoundary hb]

theorem fetchExecute_stop {s : State} (h : memRead s.pc s = .ok 0x10) :
    fetchExecute s = .refused (.stopNotModelled s.pc) := by
  unfold fetchExecute
  rw [fetchInstr_opcode (i := .stop) h rfl rfl]
  simp

/-- Settles O29: the fetch leaves PC past the byte, so the address before PC is that of the byte. -/
theorem stopIsRefused : Obligations.StopIsRefused := by
  refine ⟨exec_stop, fun s m hquit hmem hb hbyte => ?_⟩
  rw [step_atBoundary hquit hmem hb, fetchExecute_stop hbyte, andThen_refused]

/-! The illegal bytes (R337). -/

theorem illegalRows_encodes : ∀ row ∈ illegalRows, Encodes [row.1] row.2 4 4 := by decide

theorem illegalRows_exec (s : State) : ∀ row ∈ illegalRows, exec row.2 s = logIllegal row.1 s := by
  simp [illegalRows]

/-- Settles O30: each is `logIllegal` of its own byte, which adds to the log alone. -/
theorem illegalBytesAreLogged : Obligations.IllegalBytesAreLogged := fun row hrow =>
  ⟨(illegalRows_encodes row hrow).row, fun s => illegalRows_exec s row hrow⟩

end Sys2Proof.Machine
end

section
/-! The CPU tick and the console tick (60_exceptions.md R401 to R424): each step of a CPU tick hands on to the next one
or ends the tick, and a console tick is its phases one after the other. -/

namespace Sys2Proof.Machine

open Sys2Proof.Claims

/-! Halt and stall (R409, R410). -/

theorem cpuTick_of_not_halted {s : State} (h : s.halted = false) : cpuTick s = stallStep s := if_neg (by simp [h])

/-- Settles O36: the halt keeps the CPU idle or is left for the stall step, which counts down. -/
theorem haltAndStall : Obligations.HaltAndStall := by
  refine fun s => ⟨fun hhalted hnone => ?_, fun hhalted hpending => ?_, fun hhalted n hn => ?_⟩
  · exact (if_pos hhalted).trans (if_pos hnone)
  · calc cpuTick s
      _ = stallStep { s with halted := false } := (if_pos hhalted).trans (if_neg hpending)
      _ = cpuTick { s with halted := false } := (cpuTick_of_not_halted rfl).symm
  · rw [cpuTick_of_not_halted hhalted, stallStep, if_pos (by omega), hn]
    rfl

/-! The interrupt test (R411, R420, R421, R423). -/

theorem sourceBit_eq_bitOf (i : Source) : sourceBit i = bitOf i := by cases i <;> rfl

theorem isRequested_iff {s : State} {i : Source} : isRequested s i = true ↔ Pending s i := by
  unfold isRequested Pending
  rw [sourceBit_eq_bitOf, BitVec.getLsbD_and, Bool.and_eq_true]
  rfl

/-- The sources as the interrupt test asks them (R420). -/
abbrev sourceOrder : List Source := [.vblank, .stat, .timer, .serial, .joypad]

theorem interruptToTake_of_ime {s : State} (h : s.ime = true) :
    interruptToTake s = sourceOrder.find? (isRequested s) := if_pos h

/-- A source stands in the order at the place its bit has. -/
theorem sourceOrder_getElem_bitOf (i : Source) : ∃ h : bitOf i < sourceOrder.length, sourceOrder[bitOf i] = i := by
  cases i <;> exact ⟨by decide, rfl⟩

theorem bitOf_sourceOrder : ∀ (n : Nat) (h : n < sourceOrder.length), bitOf sourceOrder[n] = n := by decide

/-- The first source asked that is pending is the pending one of the lowest bit. -/
theorem find_sourceOrder_eq_some {s : State} {i : Source} :
    sourceOrder.find? (isRequested s) = some i ↔ Pending s i ∧ ∀ j, bitOf j < bitOf i → ¬Pending s j := by
  rw [List.find?_eq_some_iff_getElem, isRequested_iff]
  refine and_congr_right fun _ => ⟨?_, fun hlow => ?_⟩
  · rintro ⟨n, hn, rfl, hlow⟩ j hj
    obtain ⟨hlt, hplace⟩ := sourceOrder_getElem_bitOf j
    rw [bitOf_sourceOrder] at hj
    have hfirst := hlow _ hj
    rw [hplace] at hfirst
    rw [← isRequested_iff]
    simpa using hfirst
  · obtain ⟨hlt, hplace⟩ := sourceOrder_getElem_bitOf i
    refine ⟨bitOf i, hlt, hplace, fun n hn => ?_⟩
    have hnot := hlow sourceOrder[n] (by rwa [bitOf_sourceOrder])
    rw [← isRequested_iff] at hnot
    simpa using hnot

theorem find_sourceOrder_eq_none {s : State} :
    sourceOrder.find? (isRequested s) = none ↔ ∀ i, ¬Pending s i := by
  have hall (i : Source) : i ∈ sourceOrder := by cases i <;> decide
  rw [List.find?_eq_none]
  exact ⟨fun h i hi => h i (hall i) (isRequested_iff.2 hi), fun h i _ hi => h i (isRequested_iff.1 hi)⟩

/-- Settles O37: with IME clear none is selected; with IME set the sources are asked in the order of their bits. -/
theorem interruptPriority : Obligations.InterruptPriority := by
  intro s
  cases hime : s.ime with
  | false => simp [interruptToTake_of_not_ime hime]
  | true =>
    rw [interruptToTake_of_ime hime]
    exact ⟨fun i => find_sourceOrder_eq_some.trans (and_iff_right rfl).symm,
      find_sourceOrder_eq_none.trans (or_iff_right nofun).symm⟩

/-! The dispatch (R422, R424). -/

theorem vectorOf_eq_sourceVector (i : Source) : sourceVector i = vectorOf i := by cases i <;> rfl

/-- The state in which a dispatch pushes PC: the request and IME cleared (R422). -/
def State.acknowledged (s : State) (i : Source) : State :=
  { s.poke 0xFF0F (s.peek 0xFF0F &&& ~~~(BitVec.ofNat 8 (2 ^ bitOf i))) with ime := false }

theorem takeInterrupt_eq_callSub (i : Source) (s : State) :
    takeInterrupt i s = callSub (vectorOf i) (s.acknowledged i) := by
  have hmask : 1#8 <<< sourceBit i = BitVec.ofNat 8 (2 ^ bitOf i) := by cases i <;> rfl
  rw [takeInterrupt, hmask, vectorOf_eq_sourceVector]
  rfl

/-- A CPU tick that reaches its interrupt step with a source to dispatch (R411, R424). -/
theorem cpuTick_of_dispatch {s t : State} {i : Source} (hhalted : s.halted = false) (hstall : s.stall = 0)
    (hi : interruptToTake s = some i) (ht : takeInterrupt i s = .next t) :
    cpuTick s = if t.params.intDispatchTicks > 0 then
        .next { t with stall := t.params.intDispatchTicks - 1, executed := false }
      else fetchExecute t := by
  rw [cpuTick_of_not_halted hhalted, stallStep, if_neg (by omega), interruptStep, hi]
  dsimp only
  rw [ht, andThen_next]

/-- Settles O38: a dispatch is a call of the vector from the state with the request and IME cleared. -/
theorem interruptDispatch : Obligations.InterruptDispatch := by
  intro s i hpush
  have hpush' : CanPush (s.acknowledged i) := hpush
  obtain ⟨u, hu, hcall⟩ := callSub_wordPushed (vectorOf i) hpush'
  have htake : takeInterrupt i s = .next { u with pc := vectorOf i } := (takeInterrupt_eq_callSub i s).trans hcall
  have hparams : u.params = s.params := by
    rw [hu.whole]
    rfl
  refine ⟨u, hu, htake, fun hhalted hstall hi => ?_⟩
  rw [cpuTick_of_dispatch hhalted hstall hi htake]
  refine ⟨fun hzero => if_neg ?_, fun k hk => ?_⟩
  · simp [hparams, hzero]
  · simp [hparams, hk]

/-! Fetch, decode, execute (R121, R412). -/

theorem atPc_cons {b : Byte} {r : List Byte} {s : State} (h : AtPc (b :: r) s) :
    memRead s.pc s = .ok b ∧ AtPc r { s with pc := s.pc + 1 } := by
  constructor
  · have hread := h 0 (Nat.zero_lt_succ _)
    rwa [BitVec.add_zero] at hread
  · intro k hk
    have hread := h (k + 1) (by simpa using hk)
    have hpc : s.pc + BitVec.ofNat 16 (k + 1) = s.pc + 1 + BitVec.ofNat 16 k := by bv_omega
    rw [hpc] at hread
    have hcell : Readable s (s.pc + 1 + BitVec.ofNat 16 k) ∧ _ := memRead_eq_ok.1 hread
    exact memRead_eq_ok.2 hcell

/-- The bytes at PC are fetched in order, and PC ends past them (R121). -/
theorem fetchBytes_atPc {r : List Byte} {s : State} (h : AtPc r s) :
    fetchBytes r.length s = .ok (r, { s with pc := s.pc + BitVec.ofNat 16 r.length }) := by
  induction r generalizing s with
  | nil => simp [fetchBytes]
  | cons b r ih =>
    obtain ⟨hb, hr⟩ := atPc_cons h
    have hpc : s.pc + 1 + BitVec.ofNat 16 r.length = s.pc + BitVec.ofNat 16 (r.length + 1) := by bv_omega
    rw [List.length_cons, fetchBytes, fetch8_ok hb]
    dsimp only
    rw [ih hr]
    dsimp only
    rw [hpc]

/-- The instruction at PC is fetched whole (R134, R412). -/
theorem fetchInstr_atPc {op : Byte} {rest : List Byte} {i : Instr} {s : State} (hlen : rest.length = operandCount op)
    (h : AtPc (op :: rest) s) (hdec : decode (op :: rest) = .ok i) :
    fetchInstr s = .ok (i, { s with pc := s.pc + BitVec.ofNat 16 (rest.length + 1) }) := by
  obtain ⟨hop, hrest⟩ := atPc_cons h
  have hpc : s.pc + 1 + BitVec.ofNat 16 rest.length = s.pc + BitVec.ofNat 16 (rest.length + 1) := by bv_omega
  unfold fetchInstr
  rw [fetch8_ok hop]
  dsimp only
  rw [← hlen, fetchBytes_atPc hrest]
  dsimp only
  rw [hdec, hpc]

/-- Settles O39: at the boundary the tick is the fetch, `exec`, and the end of the row, with the parameters kept. -/
theorem stepRunsDecodedInstruction : Obligations.StepRunsDecodedInstruction := by
  intro s m op rest i hquit hmem hb hlen hat hdec
  rw [step_atBoundary hquit hmem hb, fetchExecute, fetchInstr_atPc hlen hat hdec]
  dsimp only
  generalize hu : ({ m with pc := m.pc + BitVec.ofNat 16 (rest.length + 1) } : State) = u
  cases hexec : exec i u with
  | fault f => rfl
  | refused r => rfl
  | next t =>
    have hparams : t.params = m.params := by
      rw [(exec_effect i u t hexec).params, ← hu]
    rw [andThen_next, andThen_next, andThen_next, finishRow, hparams]

/-! The phases of a tick (R401). -/

theorem step_of_no_quit {s : State} (h : s.nextDraw.quit = false) :
    step s = andThen (memoryTick s) fun m => andThen (cpuTick m) laterPhases := if_neg (by simp [h])

theorem presentFrame_eq (s : State) :
    presentFrame s = { s with presented := if s.frameReady then s.frame :: s.presented else s.presented } := by
  unfold presentFrame
  split <;> rfl

/-- Settles O40: the tick is a sequence of phases, and a sequence ends with the first part that stops. -/
theorem phasesInOrder : Obligations.PhasesInOrder := by
  intro s hquit
  rw [step_of_no_quit hquit]
  refine ⟨fun m c p hm hc hp => ?_, fun f hm => ?_, fun m f hm hc => ?_, fun m r hm hc => ?_,
    fun m c f hm hc hp => ?_⟩
  · rw [hm, andThen_next, hc, andThen_next, laterPhases, hp, andThen_next, presentFrame_eq]
  · rw [hm, andThen_fault]
  · rw [hm, andThen_next, hc, andThen_fault]
  · rw [hm, andThen_next, hc, andThen_refused]
  · rw [hm, andThen_next, hc, andThen_next, laterPhases, hp, andThen_fault]

end Sys2Proof.Machine
end

section
/-! The collaborators (60_exceptions.md R401, R457, R458): the joypad's nibble and its request, the environment's stores
and requests, and the draw that a tick uses up. -/

namespace Sys2Proof.Machine

open Sys2Proof.Claims

/-! The input (R457). -/

theorem and_0F_eq_zeroExtend (v : Byte) : v &&& 0x0F = (v.extractLsb' 0 4).zeroExtend 8 := by
  apply BitVec.eq_of_toNat_eq
  rw [BitVec.toNat_and, BitVec.toNat_setWidth_of_le (by decide), BitVec.extractLsb'_toNat, Nat.shiftRight_zero]
  exact Nat.and_two_pow_sub_one_eq_mod v.toNat 4

/-- The nibble drawn is JOYP's low one as the input phase compares them (R457). -/
theorem zeroExtend_eq_and_0F_iff {n : BitVec 4} {v : Byte} : n.zeroExtend 8 = v &&& 0x0F ↔ n = v.extractLsb' 0 4 := by
  rw [and_0F_eq_zeroExtend, BitVec.toNat_eq, BitVec.toNat_setWidth_of_le (by decide),
    BitVec.toNat_setWidth_of_le (by decide), ← BitVec.toNat_eq]

/-- JOYP with its low nibble replaced (R457). -/
theorem and_F0_or_zeroExtend (v : Byte) (n : BitVec 4) :
    ((v &&& 0xF0) ||| n.zeroExtend 8 : Byte) = v.extractLsb' 4 4 ++ n := by
  have hmask : ∀ i < 8, (0xF0 : Byte).getLsbD i = decide (4 ≤ i) := by decide
  apply BitVec.eq_of_getLsbD_eq
  intro i hi
  rw [BitVec.getLsbD_or, BitVec.getLsbD_and, hmask i hi, BitVec.getLsbD_append]
  by_cases hlow : i < 4
  · simp [hlow, hi]
  · have hplace : 4 + (i - 4) = i := by omega
    have hwidth : i - 4 < 4 := by omega
    simp [hlow, Nat.le_of_not_lt hlow, hplace, hwidth]

@[simp] theorem peek_requestInterrupt_if (m : Byte) (s : State) :
    (requestInterrupt m s).peek 0xFF0F = s.peek 0xFF0F ||| m := peek_poke_self s _ _

theorem peek_requestInterrupt_ne (m : Byte) (s : State) {k : Nat} (h : k ≠ 0xFF0F) :
    (requestInterrupt m s).peek k = s.peek k := peek_poke_ne s _ h

theorem inputPhase_of_same {n : BitVec 4} {s : State} (h : n = (s.peek 0xFF00).extractLsb' 0 4) :
    inputPhase (some n) s = s := if_pos (zeroExtend_eq_and_0F_iff.2 h)

/-- A new nibble is stored in JOYP, and the joypad's interrupt requested (R457). -/
theorem inputPhase_of_new {n : BitVec 4} {s : State} (h : n ≠ (s.peek 0xFF00).extractLsb' 0 4) :
    inputPhase (some n) s = requestInterrupt 0x10 (s.poke 0xFF00 ((s.peek 0xFF00).extractLsb' 4 4 ++ n)) := by
  rw [← and_F0_or_zeroExtend]
  exact if_neg (mt zeroExtend_eq_and_0F_iff.1 h)

/-! The environment (R458). -/

/-- The cells an action of the environment may change (R458). -/
abbrev envCells : List Nat := [0xFF01, 0xFF02, 0xFF04, 0xFF05, 0xFF06, 0xFF07, 0xFF0F]

/-- What actions of the environment may add to IF: bits 2 and 3 (R458). -/
abbrev envRequests : List Byte := [0x00, 0x04, 0x08, 0x0C]

/-- Memory alone differs from `s`, in the environment's cells, and IF has gained nothing but its requests. -/
structure EnvEffect (s t : State) : Prop where
  whole : t = { s with mem := t.mem }
  cells : ∀ k, k ∉ envCells → t.peek k = s.peek k
  requests : ∃ m ∈ envRequests, t.peek 0xFF0F = s.peek 0xFF0F ||| m

theorem EnvEffect.refl (s : State) : EnvEffect s s :=
  ⟨rfl, fun _ _ => rfl, 0x00, by decide, BitVec.or_zero.symm⟩

theorem EnvEffect.trans {s t u : State} (h : EnvEffect s t) (k : EnvEffect t u) : EnvEffect s u where
  whole := by
    have hw := h.whole
    have kw := k.whole
    rw [hw] at kw
    exact kw
  cells n hn := (k.cells n hn).trans (h.cells n hn)
  requests := by
    have hclosed : ∀ a ∈ envRequests, ∀ b ∈ envRequests, a ||| b ∈ envRequests := by decide
    obtain ⟨a, ha, hat⟩ := h.requests
    obtain ⟨b, hb, hbu⟩ := k.requests
    exact ⟨a ||| b, hclosed a ha b hb, by rw [hbu, hat, BitVec.or_assoc]⟩

theorem requestInterrupt_envEffect {m : Byte} (s : State) (hm : m ∈ envRequests) :
    EnvEffect s (requestInterrupt m s) where
  whole := rfl
  cells k hk := by
    refine peek_requestInterrupt_ne m s ?_
    rintro rfl
    exact hk (by decide)
  requests := ⟨m, hm, peek_requestInterrupt_if m s⟩

theorem envAddress_mem (r : EnvReg) : envAddress r ∈ envCells ∧ envAddress r ≠ 0xFF0F := by
  cases r <;> decide

theorem envAction_envEffect (e : EnvAction) (s : State) : EnvEffect s (envAction e s) := by
  cases e with
  | store r v =>
    obtain ⟨hmem, hne⟩ := envAddress_mem r
    refine ⟨rfl, fun k hk => peek_poke_ne s v ?_, 0x00, by decide, ?_⟩
    · rintro rfl
      exact hk hmem
    · exact (peek_poke_ne s v hne.symm).trans BitVec.or_zero.symm
  | requestTimer => exact requestInterrupt_envEffect s (by decide)
  | requestSerial => exact requestInterrupt_envEffect s (by decide)

theorem envPhase_envEffect (d : List EnvAction) (s : State) : EnvEffect s (envPhase d s) := by
  induction d generalizing s with
  | nil => exact .refl s
  | cons e r ih => exact (envAction_envEffect e s).trans (ih _)

/-! The draw (R401). -/

theorem collaborators_of_no_draw {s : State} (h : s.draws = []) : collaborators s = s := by
  rw [collaborators, State.nextDraw, h]
  change { s with draws := [] } = s
  rw [← h]

theorem collaborators_of_draw {s : State} {w : Draw} {r : List Draw} (h : s.draws = w :: r) :
    collaborators s = { envPhase w.env (inputPhase w.input s) with draws := r } := by
  rw [collaborators, State.nextDraw, h]
  rfl

/-- Settles O47: the input by whether its nibble is new, the environment by what each action may change. -/
theorem inputAndEnvironment : Obligations.InputAndEnvironment := by
  refine fun s => ⟨⟨rfl, fun n => ?_⟩, fun v => ⟨rfl, rfl, rfl, rfl, rfl, rfl⟩, rfl, rfl, fun d => ?_⟩
  · split
    · next h => exact inputPhase_of_same h
    · next h =>
      rw [inputPhase_of_new h]
      refine ⟨?_, ?_, fun k hjoyp hif => ?_, rfl⟩
      · rw [peek_requestInterrupt_ne _ _ (by decide), peek_poke_self]
      · rw [peek_requestInterrupt_if, peek_poke_ne _ _ (by decide)]
      · rw [peek_requestInterrupt_ne _ _ hif, peek_poke_ne _ _ hjoyp]
  · obtain ⟨hwhole, hcells, m, hm, hif⟩ := envPhase_envEffect d s
    refine ⟨hwhole, hcells, ?_, rfl, fun _ => rfl, collaborators_of_no_draw, fun _ _ => collaborators_of_draw⟩
    rw [hif]
    simp only [List.mem_cons, List.not_mem_nil, or_false] at hm
    rcases hm with rfl | rfl | rfl | rfl
    · exact .inl BitVec.or_zero
    · exact .inr (.inl rfl)
    · exact .inr (.inr (.inl rfl))
    · exact .inr (.inr (.inr rfl))

end Sys2Proof.Machine
end

section
/-! The debugger (60_exceptions.md R403, R459, R460): a tick whose step 4 fetches no opcode executes nothing and is not
refused for STOP, so the byte a breakpoint is compared with is that of the instruction the tick runs. -/

namespace Sys2Proof.Machine

open Sys2Proof.Claims

/-- The outcome of a tick that begins no instruction: none executed, and no refusal but a quit. -/
def RunsNoInstr (o : Result) : Prop :=
  match o with
  | .next t => t.executed = false
  | .fault _ => True
  | .refused r => r = .quit

theorem DeviceEffect.executed {s t : State} (h : DeviceEffect s t) : t.executed = s.executed := by rw [h.whole]

/-- The later phases execute nothing and refuse nothing. -/
theorem RunsNoInstr.andThen_laterPhases {o : Result} (h : RunsNoInstr o) : RunsNoInstr (andThen o laterPhases) := by
  cases o with
  | fault f => trivial
  | refused r => exact h
  | next m =>
    have hcause := laterPhases_endsForCause (p := (· = .quit)) m
    rw [andThen_next]
    cases hl : laterPhases m with
    | fault f => trivial
    | refused r => rwa [hl] at hcause
    | next t => exact (laterPhases_effect hl).executed.trans h

theorem memoryTick_ne_refused (s : State) (r : Refusal) : memoryTick s ≠ .refused r := by
  intro h
  have hcause := memoryTick_endsForCause (p := fun _ => False) s
  rwa [h] at hcause

theorem takeInterrupt_ne_refused (i : Source) (s : State) (r : Refusal) : takeInterrupt i s ≠ .refused r := by
  intro h
  have hcause : EndsForCause (fun _ => False) (s.acknowledged i) (takeInterrupt i s) := by
    rw [takeInterrupt_eq_callSub]
    exact callSub_endsForCause _ _
  rwa [h] at hcause

/-- A CPU tick that does not stay halted goes on with the halt left (R409). -/
theorem cpuTick_eq_stallStep {s : State} (h : ¬(s.halted = true ∧ s.ieReg &&& s.ifReg = 0)) :
    cpuTick s = stallStep { s with halted := false } := by
  cases hhalted : s.halted with
  | true => exact (if_pos hhalted).trans (if_neg fun hnone => h ⟨hhalted, hnone⟩)
  | false => rw [cpuTick_of_not_halted hhalted, ← hhalted]

/-- A tick that does not reach step 4 begins no instruction (R409 to R412). -/
theorem runsNoInstr_of_stateAtFetch_none {s : State} (h : stateAtFetch s = none) : RunsNoInstr (step s) := by
  unfold stateAtFetch at h
  split at h
  · next hquit =>
    rw [step_of_quit hquit]
    rfl
  next hquit =>
  rw [step_of_no_quit (by simpa using hquit)]
  cases hmem : memoryTick s with
  | fault f => trivial
  | refused r => exact absurd hmem (memoryTick_ne_refused s r)
  | next m =>
    rw [hmem] at h
    refine RunsNoInstr.andThen_laterPhases ?_
    dsimp only at h
    split at h
    · next hidle =>
      obtain ⟨hhalted, hnone⟩ := hidle
      rw [(haltAndStall m).1 hhalted hnone]
      rfl
    next hidle =>
    split at h
    · next hstall =>
      rw [cpuTick_eq_stallStep hidle, stallStep, if_pos hstall]
      rfl
    next hstall =>
    rw [cpuTick_eq_stallStep hidle, stallStep, if_neg hstall, interruptStep]
    cases hi : interruptToTake { m with halted := false } with
    | none =>
      rw [hi] at h
      cases h
    | some i =>
      rw [hi] at h
      dsimp only at h ⊢
      cases htake : takeInterrupt i { m with halted := false } with
      | fault f => trivial
      | refused r => exact absurd htake (takeInterrupt_ne_refused i _ r)
      | next v =>
        rw [htake] at h
        dsimp only at h
        split at h
        · next hticks =>
          rw [andThen_next, if_pos hticks]
          rfl
        · cases h

/-- An opcode whose bytes decode to STOP is 0x10 (R134, R333). -/
theorem opcode_of_decode_stop {op : Byte} {rest : List Byte} (hlen : operandCount op ≤ rest.length)
    (h : decode (op :: rest) = .ok .stop) : op = 0x10 := by
  obtain ⟨i, hi, -, henc⟩ := decoderIsTotal op rest hlen
  obtain rfl : Instr.stop = i := Except.ok.inj (h.symm.trans hi)
  by_contra hne
  exact hne (List.cons.inj (henc hne)).1.symm

/-- Step 4 is refused only for STOP, whose opcode is the byte at PC (R333). -/
theorem memRead_of_fetchExecute_refused {s : State} {r : Refusal} (h : fetchExecute s = .refused r) :
    memRead s.pc s = .ok 0x10 := by
  unfold fetchExecute at h
  split at h
  · cases h
  next i u hfetch =>
  have hstop : i = .stop := by
    rcases andThen_eq_refused.1 h with hexec | ⟨t, -, hnext⟩
    · exact (exec_refused_iff i u).1 ⟨r, hexec⟩
    · cases hnext
  unfold fetchInstr fetch8 at hfetch
  cases hread : memRead s.pc s with
  | error f => rw [hread] at hfetch; cases hfetch
  | ok op =>
    rw [hread] at hfetch
    dsimp only at hfetch
    split at hfetch
    · cases hfetch
    next rest v hrest =>
    split at hfetch
    · next hdec =>
      cases hfetch
      rw [hstop] at hdec
      rw [opcode_of_decode_stop (fetchBytes_length hrest).ge hdec]
    · cases hfetch

/-- Step 4 ends in a state only if it fetched an opcode. -/
theorem memRead_of_fetchExecute_next {s t : State} (h : fetchExecute s = .next t) : ∃ b, memRead s.pc s = .ok b := by
  cases hread : memRead s.pc s with
  | ok b => exact ⟨b, rfl⟩
  | error f =>
    unfold fetchExecute fetchInstr fetch8 at h
    rw [hread] at h
    cases h

theorem breaksOnOpcode_unique {b c : Byte} {s : State} (hb : breaksOnOpcode b s = true)
    (hc : breaksOnOpcode c s = true) : c = b := by
  obtain ⟨t, ht, hbt⟩ := breaksOnOpcode_iff.1 hb
  obtain ⟨u, hu, hcu⟩ := breaksOnOpcode_iff.1 hc
  obtain rfl : t = u := Option.some.inj (ht.symm.trans hu)
  exact Except.ok.inj (hcu.symm.trans hbt)

/-- A tick that executes an instruction has fetched its opcode (R412, R413). -/
theorem breaksOnOpcode_of_executed {s t : State} (h : step s = .next t) (hexec : t.executed = true) :
    ∃ b, breaksOnOpcode b s = true := by
  cases hat : stateAtFetch s with
  | none =>
    have hno := runsNoInstr_of_stateAtFetch_none hat
    rw [h] at hno
    exact absurd (hexec.symm.trans hno) nofun
  | some u =>
    obtain ⟨v, hv, -⟩ := andThen_eq_next.1 ((consoleTick_of_stateAtFetch hat).symm.trans h)
    obtain ⟨b, hb⟩ := memRead_of_fetchExecute_next hv
    exact ⟨b, breaksOnOpcode_iff.2 ⟨u, hat, hb⟩⟩

/-- A tick that STOP refuses has fetched 0x10 (R333). -/
theorem breaksOnOpcode_of_stop {s : State} {a : Word} (h : step s = .refused (.stopNotModelled a)) :
    breaksOnOpcode 0x10 s = true := by
  cases hat : stateAtFetch s with
  | none =>
    have hno := runsNoInstr_of_stateAtFetch_none hat
    rw [h] at hno
    cases hno
  | some u =>
    have htick := (consoleTick_of_stateAtFetch hat).symm.trans h
    rcases andThen_eq_refused.1 htick with hfetch | ⟨m, -, hlater⟩
    · exact breaksOnOpcode_iff.2 ⟨u, hat, memRead_of_fetchExecute_refused hfetch⟩
    · have hcause := laterPhases_endsForCause (p := fun _ => False) m
      rw [hlater] at hcause
      exact hcause.elim

theorem debugRead_eq (a : Word) (s : State) : debugRead a s = (byteAt a s).getD 0xFF := by
  unfold debugRead byteAt
  cases memRead a s <;> rfl

/-- Settles O60: a breakpoint looks at the state step 4 begins in, and each request runs one tick at a time. -/
theorem debuggerRequests : Obligations.DebuggerRequests := by
  refine fun s => ⟨fun b hb => ?_, fun t ht hexec => ?_, fun a => breaksOnOpcode_of_stop, rfl, ?_, fun n =>
    ⟨fun t ht => ?_, fun hstop => ?_⟩⟩
  · obtain ⟨t, ht, hread⟩ := breaksOnOpcode_iff.1 hb
    exact ⟨t, byteAt_eq_some.2 hread, consoleTick_of_stateAtFetch ht⟩
  · obtain ⟨b, hb⟩ := breaksOnOpcode_of_executed ht hexec
    exact ⟨b, hb, fun c => breaksOnOpcode_unique hb⟩
  · simp [readNextThreeBytesAtPc, debugRead_eq]
  · have htick : consoleTick s = .next t := ht
    simp [stepOneInstruction, resumeContinuous, htick]
  · have htick (k : State → Result) : andThen (consoleTick s) k = step s := by
      change andThen (step s) k = step s
      cases h : step s with
      | next t => exact absurd h (hstop t)
      | fault f => rfl
      | refused r => rfl
    simp [stepOneInstruction, resumeContinuous, htick]

end Sys2Proof.Machine
end

section
/-! The parts of the PPU's tick (60_exceptions.md R430 to R438): a mode entry, the coincidence test, the start of the
vertical blank, the search, the drawing of a line and the step of the dot counter, each with what it writes. -/

namespace Sys2Proof.Machine

open Sys2Proof.Claims

/-! What a part of the work may change. -/

/-- Only IF, STAT and LY among the cells, and only the PPU's own fields, differ from `s`. -/
structure PpuEffect (s t : State) : Prop where
  whole : t = { s with
    mem := t.mem, dot := t.dot, sprites := t.sprites, spriteTall := t.spriteTall
    windowLine := t.windowLine, frames := t.frames, frame := t.frame, frameReady := t.frameReady }
  cells : ∀ n, n ≠ 0xFF0F → n ≠ 0xFF41 → n ≠ 0xFF44 → t.peek n = s.peek n

theorem PpuEffect.refl (s : State) : PpuEffect s s := ⟨rfl, fun _ _ _ _ => rfl⟩

theorem PpuEffect.trans {s t u : State} (h : PpuEffect s t) (k : PpuEffect t u) : PpuEffect s u where
  whole := by
    have hw := h.whole
    have kw := k.whole
    rw [hw] at kw
    exact kw
  cells n hif hstat hly := (k.cells n hif hstat hly).trans (h.cells n hif hstat hly)

/-- A state that differs in IF and STAT alone. -/
structure StatEffect (s t : State) : Prop where
  whole : t = { s with mem := t.mem }
  cells : ∀ n, n ≠ 0xFF0F → n ≠ 0xFF41 → t.peek n = s.peek n

theorem StatEffect.ppuEffect {s t : State} (h : StatEffect s t) : PpuEffect s t where
  whole := by
    have hw := h.whole
    generalize t.mem = m at hw
    rw [hw]
  cells n hif hstat _ := h.cells n hif hstat

theorem StatEffect.trans {s t u : State} (h : StatEffect s t) (k : StatEffect t u) : StatEffect s u where
  whole := by
    have hw := h.whole
    have kw := k.whole
    rw [hw] at kw
    exact kw
  cells n hif hstat := (k.cells n hif hstat).trans (h.cells n hif hstat)

theorem requestInterrupt_statEffect (m : Byte) (s : State) : StatEffect s (requestInterrupt m s) :=
  ⟨rfl, fun _ hif _ => peek_requestInterrupt_ne m s hif⟩

theorem pokeStat_statEffect (s : State) (v : Byte) : StatEffect s (s.poke 0xFF41 v) :=
  ⟨rfl, fun _ _ hstat => peek_poke_ne s v hstat⟩

/-- A request with one bit set adds that bit to IF. -/
theorem requestInterrupt_bit {m : Byte} {j : Nat} (hm : m = BitVec.twoPow 8 j) (hj : j < 8) (s : State) (k : Nat) :
    ((requestInterrupt m s).peek 0xFF0F).getLsbD k = ((s.peek 0xFF0F).getLsbD k || decide (k = j)) := by
  rw [peek_requestInterrupt_if, BitVec.getLsbD_or, hm, BitVec.getLsbD_twoPow]
  simp [hj, eq_comm]

/-- The request of the STAT interrupt where `p` holds (R435, R436). -/
def requestStatIf (p : Prop) [Decidable p] (s : State) : State := if p then requestInterrupt 0x02 s else s

theorem requestStatIf_statEffect (p : Prop) [Decidable p] (s : State) : StatEffect s (requestStatIf p s) := by
  unfold requestStatIf
  split
  · exact requestInterrupt_statEffect 0x02 s
  · exact ⟨rfl, fun _ _ _ => rfl⟩

@[simp] theorem requestStatIf_stat (p : Prop) [Decidable p] (s : State) :
    (requestStatIf p s).peek 0xFF41 = s.peek 0xFF41 := by
  unfold requestStatIf
  split
  · exact peek_requestInterrupt_ne 0x02 s (by decide)
  · rfl

/-- The STAT request is bit 1 of IF. -/
@[simp] theorem requestStatIf_if (p : Prop) [Decidable p] (s : State) (k : Nat) :
    ((requestStatIf p s).peek 0xFF0F).getLsbD k = ((s.peek 0xFF0F).getLsbD k || decide (k = 1 ∧ p)) := by
  unfold requestStatIf
  split
  · next hp => exact (requestInterrupt_bit (m := 0x02) (j := 1) rfl (by decide) s k).trans (by simp [hp])
  · next hp => simp [hp]

/-! The mode entry (R432, R435). -/

/-- The entry to mode `m` writes STAT and makes the request if there is an enable bit and it is set. -/
theorem enterMode_eq (m : Nat) (s : State) :
    enterMode m s = requestStatIf (m < 3 ∧ ((s.peek 0xFF41 &&& 0xFC) ||| BitVec.ofNat 8 m).getLsbD (3 + m) = true)
      (s.poke 0xFF41 ((s.peek 0xFF41 &&& 0xFC) ||| BitVec.ofNat 8 m)) := by
  unfold enterMode modeEnableBit requestStatIf
  by_cases hm : m < 3
  · simp [hm, statBit]
  · simp [hm]

theorem enterMode_statEffect (m : Nat) (s : State) : StatEffect s (enterMode m s) := by
  rw [enterMode_eq]
  exact (pokeStat_statEffect s _).trans (requestStatIf_statEffect _ _)

theorem enterMode_stat (m : Nat) (s : State) :
    (enterMode m s).peek 0xFF41 = (s.peek 0xFF41 &&& 0xFC) ||| BitVec.ofNat 8 m := by
  rw [enterMode_eq, requestStatIf_stat, peek_poke_self]

theorem enterMode_stat_mode (m : Nat) (s : State) :
    ((enterMode m s).peek 0xFF41).extractLsb' 0 2 = BitVec.ofNat 2 m := by
  have hmask : BitVec.extractLsb' 0 2 (0xFC : Byte) = 0#2 := rfl
  have hmode : BitVec.extractLsb' 0 2 (BitVec.ofNat 8 m) = BitVec.ofNat 2 m := by
    apply BitVec.eq_of_toNat_eq
    rw [BitVec.extractLsb'_toNat, BitVec.toNat_ofNat, BitVec.toNat_ofNat, Nat.shiftRight_zero]
    omega
  rw [enterMode_stat, BitVec.extractLsb'_or, BitVec.extractLsb'_and, hmask, hmode, BitVec.and_zero, BitVec.zero_or]

theorem enterMode_stat_high {m k : Nat} (hm : m < 4) (hk : 2 ≤ k) (s : State) :
    ((enterMode m s).peek 0xFF41).getLsbD k = (s.peek 0xFF41).getLsbD k := by
  by_cases hk8 : k < 8
  · have hmask : ∀ j < 8, 2 ≤ j → (0xFC : Byte).getLsbD j = true := by decide
    have hmode : m.testBit k = false := Nat.testBit_lt_two_pow (hm.trans_le (Nat.pow_le_pow_right two_pos hk))
    rw [enterMode_stat, BitVec.getLsbD_or, BitVec.getLsbD_and, hmask k hk8 hk, BitVec.getLsbD_ofNat, hmode]
    simp
  · rw [BitVec.getLsbD_of_ge _ k (by omega), BitVec.getLsbD_of_ge _ k (by omega)]

theorem enterMode_if {m : Nat} (hm : m < 4) (s : State) (k : Nat) :
    ((enterMode m s).peek 0xFF0F).getLsbD k =
      ((s.peek 0xFF0F).getLsbD k || decide (k = 1 ∧ m < 3 ∧ (s.peek 0xFF41).getLsbD (3 + m) = true)) := by
  rw [← enterMode_stat_high hm (k := 3 + m) (by omega), enterMode_stat, enterMode_eq, requestStatIf_if,
    peek_poke_ne _ _ (by decide)]

/-! The coincidence (R433, R436). -/

/-- STAT with bit 2 saying whether LY = LYC (R433). -/
def coincidenceStat (s : State) : Byte :=
  if s.peek 0xFF44 = s.peek 0xFF45 then s.peek 0xFF41 ||| 0x04 else s.peek 0xFF41 &&& 0xFB

theorem coincidence_eq (s : State) :
    coincidence s = requestStatIf (s.peek 0xFF44 = s.peek 0xFF45 ∧
      (s.params.lycIrqRequiresEnable = false ∨ (coincidenceStat s).getLsbD 6 = true))
      (s.poke 0xFF41 (coincidenceStat s)) := by
  unfold coincidence requestStatIf coincidenceStat
  by_cases h : s.peek 0xFF44 = s.peek 0xFF45
  · simp [h, statBit]
  · simp [h]

theorem coincidence_statEffect (s : State) : StatEffect s (coincidence s) := by
  rw [coincidence_eq]
  exact (pokeStat_statEffect s _).trans (requestStatIf_statEffect _ _)

theorem coincidenceStat_bit (s : State) {k : Nat} (hk : k < 8) :
    (coincidenceStat s).getLsbD k =
      if k = 2 then decide (s.peek 0xFF44 = s.peek 0xFF45) else (s.peek 0xFF41).getLsbD k := by
  have hset : ∀ j < 8, (0x04 : Byte).getLsbD j = decide (j = 2) := by decide
  have hclear : ∀ j < 8, (0xFB : Byte).getLsbD j = decide (j ≠ 2) := by decide
  unfold coincidenceStat
  by_cases hly : s.peek 0xFF44 = s.peek 0xFF45
  · rw [if_pos hly, BitVec.getLsbD_or, hset k hk]
    by_cases h2 : k = 2 <;> simp [h2, hly]
  · rw [if_neg hly, BitVec.getLsbD_and, hclear k hk]
    by_cases h2 : k = 2 <;> simp [h2, hly]

theorem coincidence_stat (s : State) : (coincidence s).peek 0xFF41 = coincidenceStat s := by
  rw [coincidence_eq, requestStatIf_stat, peek_poke_self]

theorem coincidence_if (s : State) (k : Nat) :
    ((coincidence s).peek 0xFF0F).getLsbD k = ((s.peek 0xFF0F).getLsbD k || decide (k = 1 ∧
      s.peek 0xFF44 = s.peek 0xFF45 ∧
        (s.params.lycIrqRequiresEnable = false ∨ (s.peek 0xFF41).getLsbD 6 = true))) := by
  have hbit : (coincidenceStat s).getLsbD 6 = (s.peek 0xFF41).getLsbD 6 := coincidenceStat_bit s (by decide)
  rw [coincidence_eq, requestStatIf_if, peek_poke_ne _ _ (by decide), hbit]

/-! The frame, the search and the line (R434, R437, R439). -/

theorem vblank_ppuEffect (s : State) : PpuEffect s (vblank s) where
  whole := rfl
  cells _ hif _ _ := peek_requestInterrupt_ne 0x01 s hif

theorem vblank_if (s : State) (k : Nat) :
    ((vblank s).peek 0xFF0F).getLsbD k = ((s.peek 0xFF0F).getLsbD k || decide (k = 0)) :=
  requestInterrupt_bit (m := 0x01) rfl (by decide) s k

theorem oamSearch_ppuEffect (ly : Nat) (s : State) : PpuEffect s (oamSearch ly s) := ⟨rfl, fun _ _ _ _ => rfl⟩

/-- The state after line `ly` is drawn (R438, R439). -/
def State.lineDrawn (s : State) (ly : Nat) : State :=
  { s with
    frame := s.frame.setIfInBounds ly (lineShades s ly)
    windowLine := if windowDrawn s ly then s.windowLine + 1 else s.windowLine }

theorem lineDrawn_ppuEffect (s : State) (ly : Nat) : PpuEffect s (s.lineDrawn ly) := ⟨rfl, fun _ _ _ _ => rfl⟩

/-! The end of the tick (R431, R438). -/

/-- The line after `ly` (R431). -/
def nextLine (ly : Byte) : Byte := if ly = 153 then 0 else ly + 1

theorem advanceDot_inside {s : State} (ly : Byte) (h : s.dot ≠ 455) : advanceDot ly s = { s with dot := s.dot + 1 } :=
  if_neg (by omega)

/-- The end of a line (R431, R438). -/
theorem advanceDot_end {s : State} (ly : Byte) (h : s.dot = 455) :
    advanceDot ly s = { s.poke 0xFF44 (nextLine ly) with
      dot := 0
      windowLine := if nextLine ly = 0 then 0 else s.windowLine } := by
  rw [advanceDot, if_pos (by omega), endOfLine]
  change (if nextLine ly = 0 then _ else _) = _
  split <;> rfl

theorem advanceDot_ppuEffect (ly : Byte) (s : State) : PpuEffect s (advanceDot ly s) := by
  by_cases h : s.dot = 455
  · rw [advanceDot_end ly h]
    exact ⟨rfl, fun _ _ _ hly => peek_poke_ne s _ hly⟩
  · rw [advanceDot_inside ly h]
    exact ⟨rfl, fun _ _ _ _ => rfl⟩

end Sys2Proof.Machine
end

section
/-! The pixels of a line (60_exceptions.md R439, R440): the shade of a pixel as a function of the background's colour
index and of the first sprite, by X and then by scan order, that is not transparent there. -/

namespace Sys2Proof.Machine

open Sys2Proof.Claims

/-! Background and window (R439). -/

theorem paletteShade_toNat (pal : Byte) (ci : Shade) : (paletteShade pal ci).toNat = shadeOf pal ci.toNat := by
  unfold paletteShade shadeOf
  rw [BitVec.toNat_setWidth, BitVec.toNat_ushiftRight, Nat.shiftRight_eq_div_pow, Nat.pow_mul]

theorem rowColour_toNat (lo hi : Byte) (b : Nat) : (rowColour lo hi b).toNat = colourOf lo hi b := by
  unfold rowColour colourOf
  cases hi.getLsbD b <;> cases lo.getLsbD b <;> rfl

/-- A signed index from 0x9000 is an unsigned one from 0x8000 where its top bit is set (R439). -/
theorem tileBase_eq (unsigned : Bool) (t : Byte) :
    tileBase unsigned t = if unsigned = true ∨ 128 ≤ t.toNat then 0x8000 + 16 * t.toNat else 0x9000 + 16 * t.toNat := by
  unfold tileBase
  have ht := t.isLt
  cases unsigned with
  | true => simp
  | false =>
    rw [BitVec.toInt_eq_toNat_cond]
    simp only [Bool.false_eq_true, if_false, false_or]
    split <;> split <;> omega

/-- The tile data stands below OAM (R439). -/
theorem tileBase_le (unsigned : Bool) (t : Byte) : tileBase unsigned t ≤ 0x97F0 := by
  have ht := t.isLt
  rw [tileBase_eq]
  split <;> omega

/-- A pixel of a tile map, with the tile's place as a number (R439). -/
theorem mapPixel_toNat (s : State) (map px py : Nat) :
    (mapPixel s map px py).toNat =
      let t := (s.peek (map + py / 8 * 32 + px / 8)).toNat
      let base := if (s.peek 0xFF40).getLsbD 4 = true ∨ 128 ≤ t then 0x8000 + 16 * t else 0x9000 + 16 * t
      colourOf (s.peek (base + 2 * (py % 8))) (s.peek (base + 2 * (py % 8) + 1)) (7 - px % 8) := by
  rw [mapPixel, tileBase_eq]
  exact rowColour_toNat _ _ _

theorem bgPixel_toNat (s : State) (x ly : Nat) : (bgPixel s x ly).toNat = backgroundIndex s x ly := by
  unfold bgPixel backgroundIndex windowApplies lcdcBit
  dsimp only
  generalize ((s.peek 0xFF40).getLsbD 5 && decide (x + 7 ≥ (s.peek 0xFF4B).toNat) &&
    decide (ly ≥ (s.peek 0xFF4A).toNat)) = window
  cases (s.peek 0xFF40).getLsbD 0 with
  | false => rfl
  | true => cases window <;> exact mapPixel_toNat s _ _ _

theorem shadeBg_toNat (s : State) (x ly : Nat) :
    (shadeBg s (bgPixel s x ly)).toNat = shadeOf (s.peek 0xFF47) (backgroundIndex s x ly) := by
  rw [shadeBg, paletteShade_toNat, bgPixel_toNat]

/-! A sprite's pixel (R440). -/

theorem and_FE_toNat : ∀ t : Byte, (t &&& 0xFE).toNat = t.toNat / 2 * 2 := by decide

theorem spriteRowAddress_eq (s : State) (ly : Nat) (i : Fin 40) : spriteRowAddress s ly i = spriteAddress s ly i := by
  unfold spriteRowAddress spriteAddress objHeight
  cases s.spriteTall with
  | false => rfl
  | true =>
    simp only [if_true, and_FE_toNat]
    rfl

/-- The colour index sprite `i` shows at column `x` (R440). -/
def spriteColour (s : State) (x ly : Nat) (i : Fin 40) : Shade :=
  rowColour ((byteAt (spriteAddress s ly i) s).getD 0) ((byteAt (spriteAddress s ly i + 1) s).getD 0)
    (spriteColumnBit s x i)

theorem spriteColour_toNat (s : State) (x ly : Nat) (i : Fin 40) :
    (spriteColour s x ly i).toNat = spriteIndex s x ly i := rowColour_toNat _ _ _

/-- Sprite `i` is not transparent at column `x` (R440). -/
def showsAt (s : State) (x ly : Nat) (i : Fin 40) : Bool := spriteColour s x ly i != 0

theorem showsAt_iff {s : State} {x ly : Nat} {i : Fin 40} : showsAt s x ly i = true ↔ spriteIndex s x ly i ≠ 0 := by
  rw [showsAt, bne_iff_ne, ← spriteColour_toNat, Ne, Ne, BitVec.toNat_eq]
  rfl

/-- The shade where sprite `i` wins: its own, or the background's where that has priority (R440). -/
def overlayShade (s : State) (x ly : Nat) (ci : Shade) (i : Fin 40) : Shade :=
  if !(oamByte s i 3).getLsbD 7 || ci == 0 then
    paletteShade (s.peek (if (oamByte s i 3).getLsbD 4 then 0xFF49 else 0xFF48)) (spriteColour s x ly i)
  else shadeBg s ci

theorem overlayShade_toNat (s : State) (x ly : Nat) (i : Fin 40) :
    (overlayShade s x ly (bgPixel s x ly) i).toNat =
      if (oam s i 3).testBit 7 = false ∨ backgroundIndex s x ly = 0 then
        shadeOf (s.peek (if (oam s i 3).testBit 4 then 0xFF49 else 0xFF48)) (spriteIndex s x ly i)
      else shadeOf (s.peek 0xFF47) (backgroundIndex s x ly) := by
  have hzero : (bgPixel s x ly == 0) = true ↔ backgroundIndex s x ly = 0 := by
    rw [beq_iff_eq, ← bgPixel_toNat, BitVec.toNat_eq]
    rfl
  have hcond : (!(oamByte s i 3).getLsbD 7 || bgPixel s x ly == 0) = true ↔
      (oam s i 3).testBit 7 = false ∨ backgroundIndex s x ly = 0 := by
    rw [Bool.or_eq_true, hzero, Bool.not_eq_true']
    rfl
  unfold overlayShade
  simp only [hcond]
  split
  · rw [paletteShade_toNat, spriteColour_toNat]
    rfl
  · exact shadeBg_toNat s x ly

/-- Both bytes of the row of sprite `i` on line `ly` can be read (R84, R440). -/
def SpriteRowPresent (s : State) (ly : Nat) (i : Fin 40) : Prop :=
  Readable s (spriteAddress s ly i) ∧ Readable s (spriteAddress s ly i + 1)

theorem memRead_eq_byteAt {s : State} {a : Word} (h : Readable s a) : memRead a s = .ok ((byteAt a s).getD 0) := by
  rw [byteAt_of_readable h, memRead_ok h]
  rfl

/-- The loop over the candidates stops at the first that is not transparent (R440). -/
theorem spriteShade_eq_find {s : State} {ly : Nat} {l : List (Fin 40)} (hl : ∀ i ∈ l, SpriteRowPresent s ly i)
    (x : Nat) (ci : Shade) : spriteShade s x ly ci l =
      .ok ((l.find? (showsAt s x ly)).elim (shadeBg s ci) (overlayShade s x ly ci)) := by
  induction l with
  | nil => rfl
  | cons i r ih =>
    obtain ⟨⟨hlo, hhi⟩, hr⟩ := List.forall_mem_cons.1 hl
    unfold spriteShade
    rw [spriteRowAddress_eq, memRead_eq_byteAt hhi, memRead_eq_byteAt hlo]
    dsimp only
    change (if spriteColour s x ly i = 0 then _ else _) = _
    by_cases hzero : spriteColour s x ly i = 0
    · rw [if_pos hzero, List.find?_cons_of_neg (by simp [showsAt, hzero]), ih hr]
    · rw [if_neg hzero, List.find?_cons_of_pos (show showsAt s x ly i = true from bne_iff_ne.2 hzero)]
      exact (apply_ite Except.ok _ _ _).symm

/-! The order of the candidates (R440). -/

/-- The order of the candidates: by X, `i` not after `j`. -/
abbrev byX (s : State) (i j : Fin 40) : Prop := oam s i 1 ≤ oam s j 1

theorem insertByX_cons_of_le {s : State} {i j : Fin 40} (r : List (Fin 40)) (h : byX s i j) :
    insertByX s i (j :: r) = i :: j :: r := if_pos h

theorem insertByX_cons_of_not_le {s : State} {i j : Fin 40} (r : List (Fin 40)) (h : ¬byX s i j) :
    insertByX s i (j :: r) = j :: insertByX s i r := if_neg h

theorem insertByX_eq_orderedInsert (s : State) (i : Fin 40) (l : List (Fin 40)) :
    insertByX s i l = l.orderedInsert (byX s) i := by
  induction l with
  | nil => rfl
  | cons j r ih =>
    rw [List.orderedInsert_cons, ← ih]
    rfl

theorem sortByX_eq_insertionSort (s : State) (l : List (Fin 40)) : sortByX s l = l.insertionSort (byX s) := by
  induction l with
  | nil => rfl
  | cons i r ih => rw [sortByX, ih, insertByX_eq_orderedInsert, List.insertionSort_cons]

theorem mem_sortByX {s : State} {i : Fin 40} {l : List (Fin 40)} : i ∈ sortByX s l ↔ i ∈ l := by
  rw [sortByX_eq_insertionSort, List.mem_insertionSort]

theorem sortByX_pairwise (s : State) (l : List (Fin 40)) : (sortByX s l).Pairwise (byX s) := by
  have htotal : Std.Total (byX s) := ⟨fun i j => Nat.le_total (oam s i 1) (oam s j 1)⟩
  have htrans : IsTrans (Fin 40) (byX s) := ⟨fun _ _ _ => Nat.le_trans⟩
  rw [sortByX_eq_insertionSort]
  exact List.pairwise_insertionSort _ l

section
variable {s : State} {P : Fin 40 → Bool} {i a : Fin 40} {l : List (Fin 40)}

/-- An inserted sprite with `P` is the first one if no other with `P` stands further left. -/
theorem find_insertByX_self (ha : P a = true) (hl : ∀ j ∈ l, P j = true → byX s a j) :
    (insertByX s a l).find? P = some a := by
  induction l with
  | nil => exact List.find?_cons_of_pos ha
  | cons j r ih =>
    obtain ⟨hj, hr⟩ := List.forall_mem_cons.1 hl
    by_cases hle : byX s a j
    · rw [insertByX_cons_of_le r hle, List.find?_cons_of_pos ha]
    · rw [insertByX_cons_of_not_le r hle, List.find?_cons_of_neg (mt hj hle), ih hr]

/-- The first sprite with `P` of a sorted list stays the first if the inserted one stands further right. -/
theorem find_insertByX_of_lt (hsorted : l.Pairwise (byX s)) (hi : l.find? P = some i)
    (ha : P a = true → oam s i 1 < oam s a 1) : (insertByX s a l).find? P = some i := by
  induction l with
  | nil => cases hi
  | cons j r ih =>
    obtain ⟨hj, hr⟩ := List.pairwise_cons.1 hsorted
    by_cases hle : byX s a j
    · have hji : byX s j i := by
        rcases List.mem_cons.1 (List.mem_of_find?_eq_some hi) with rfl | hmem
        · exact le_rfl
        · exact hj i hmem
      have hPa : ¬P a = true := fun h => absurd (hle.trans hji) (not_le.2 (ha h))
      rw [insertByX_cons_of_le r hle, List.find?_cons_of_neg hPa, hi]
    · rw [insertByX_cons_of_not_le r hle]
      by_cases hPj : P j = true
      · rwa [List.find?_cons_of_pos hPj] at hi ⊢
      · rw [List.find?_cons_of_neg hPj] at hi ⊢
        exact ih hr hi

/-- The first sprite with `P` in the order of the candidates is the leftmost, and of those the first in the list. -/
theorem find_sortByX {l₁ l₂ : List (Fin 40)} (hi : P i = true) (h₁ : ∀ j ∈ l₁, P j = true → oam s i 1 < oam s j 1)
    (h₂ : ∀ j ∈ l₂, P j = true → byX s i j) : (sortByX s (l₁ ++ i :: l₂)).find? P = some i := by
  induction l₁ with
  | nil => exact find_insertByX_self hi fun j hj => h₂ j (mem_sortByX.1 hj)
  | cons j r ih =>
    obtain ⟨hj, hr⟩ := List.forall_mem_cons.1 h₁
    exact find_insertByX_of_lt (sortByX_pairwise s _) (ih hr) hj

end

/-! The pixel (R440). -/

theorem coversColumn_iff {s : State} {x : Nat} {i : Fin 40} : coversColumn s x i = true ↔ Covers s x i := by
  rw [coversColumn, Bool.and_eq_true, decide_eq_true_iff, decide_eq_true_iff]
  rfl

/-- The sprites that may show at column `x`, in the order of the candidates (R440). -/
abbrev candidates (s : State) (x : Nat) : List (Fin 40) := sortByX s (s.sprites.filter (coversColumn s x))

theorem mem_candidates {s : State} {x : Nat} {i : Fin 40} : i ∈ candidates s x ↔ i ∈ s.sprites ∧ Covers s x i := by
  rw [mem_sortByX, List.mem_filter, coversColumn_iff]

theorem pixelShade_without_sprites {s : State} (h : (s.peek 0xFF40).getLsbD 1 = false) (x ly : Nat) :
    pixelShade s x ly = .ok (shadeBg s (bgPixel s x ly)) := if_neg (Bool.eq_false_iff.1 h)

theorem pixelShade_with_sprites {s : State} {ly : Nat} (h : (s.peek 0xFF40).getLsbD 1 = true)
    (hrows : ∀ i ∈ s.sprites, SpriteRowPresent s ly i) (x : Nat) : pixelShade s x ly =
      .ok (((candidates s x).find? (showsAt s x ly)).elim (shadeBg s (bgPixel s x ly))
        (overlayShade s x ly (bgPixel s x ly))) :=
  (if_pos h).trans (spriteShade_eq_find (fun i hi => hrows i (mem_candidates.1 hi).1) x _)

/-- The list around the sprite at position `p`. -/
theorem exists_append_of_getElem? {l : List (Fin 40)} {p : Nat} {i : Fin 40} (h : l[p]? = some i) :
    ∃ l₁ l₂, l = l₁ ++ i :: l₂ ∧ (∀ j ∈ l₁, ∃ q, q < p ∧ l[q]? = some j) ∧
      ∀ j ∈ l₂, ∃ q, p < q ∧ l[q]? = some j := by
  obtain ⟨hp, hi⟩ := List.getElem?_eq_some_iff.1 h
  refine ⟨l.take p, l.drop (p + 1), ?_, fun j hj => ?_, fun j hj => ?_⟩
  · rw [← hi, List.cons_getElem_drop_succ, List.take_append_drop]
  · obtain ⟨q, hq, hqj⟩ := List.mem_take_iff_getElem.1 hj
    exact ⟨q, by omega, List.getElem?_eq_some_iff.2 ⟨_, hqj⟩⟩
  · obtain ⟨q, hq, hqj⟩ := List.mem_drop_iff_getElem.1 hj
    exact ⟨p + 1 + q, by omega, List.getElem?_eq_some_iff.2 ⟨_, hqj⟩⟩

/-- The sprite at position `p` wins at column `x`: no other that shows there stands further left, or as far left and
earlier in the list (R440). -/
theorem find_candidates {s : State} {x ly p : Nat} {i : Fin 40} (hp : s.sprites[p]? = some i)
    (hcovers : Covers s x i) (hshows : spriteIndex s x ly i ≠ 0)
    (hfirst : ∀ (q : Nat) (j : Fin 40), q ≠ p → s.sprites[q]? = some j → Covers s x j → spriteIndex s x ly j ≠ 0 →
      oam s i 1 < oam s j 1 ∨ (oam s i 1 = oam s j 1 ∧ p < q)) :
    (candidates s x).find? (showsAt s x ly) = some i := by
  obtain ⟨l₁, l₂, hl, h₁, h₂⟩ := exists_append_of_getElem? hp
  rw [candidates, hl, List.filter_append, List.filter_cons_of_pos (coversColumn_iff.2 hcovers)]
  refine find_sortByX (showsAt_iff.2 hshows) (fun j hj hP => ?_) fun j hj hP => ?_
  · obtain ⟨hmem, hcov⟩ := List.mem_filter.1 hj
    obtain ⟨q, hq, hqj⟩ := h₁ j hmem
    have := hfirst q j (by omega) hqj (coversColumn_iff.1 hcov) (showsAt_iff.1 hP)
    omega
  · obtain ⟨hmem, hcov⟩ := List.mem_filter.1 hj
    obtain ⟨q, hq, hqj⟩ := h₂ j hmem
    have := hfirst q j (by omega) hqj (coversColumn_iff.1 hcov) (showsAt_iff.1 hP)
    unfold byX
    omega

theorem find_candidates_eq_none {s : State} {x ly : Nat}
    (h : ∀ i ∈ s.sprites, Covers s x i → spriteIndex s x ly i = 0) :
    (candidates s x).find? (showsAt s x ly) = none := by
  refine List.find?_eq_none.2 fun i hi hshows => ?_
  obtain ⟨hmem, hcovers⟩ := mem_candidates.1 hi
  exact showsAt_iff.1 hshows (h i hmem hcovers)

/-! The line (R439). -/

theorem firstPixelFault_eq_none {s : State} {ly : Nat} {xs : List Nat} (h : ∀ x, ∃ c, pixelShade s x ly = .ok c) :
    firstPixelFault s ly xs = none := by
  induction xs with
  | nil => rfl
  | cons x r ih =>
    obtain ⟨c, hc⟩ := h x
    rw [firstPixelFault, hc]
    exact ih

theorem renderLine_next {s : State} {ly : Nat} (h : ∀ x, ∃ c, pixelShade s x ly = .ok c) :
    renderLine ly s = .next (s.lineDrawn ly) := by
  rw [renderLine, firstPixelFault_eq_none h]
  rfl

theorem lineDrawn_frame_self (s : State) (ly : Fin 144) {x : Fin 160} {c : Shade} (h : pixelShade s x ly = .ok c) :
    (s.lineDrawn ly).frame[ly][x] = c := by
  simp [State.lineDrawn, lineShades, h]

theorem lineDrawn_frame_ne (s : State) {ly y : Fin 144} (h : y ≠ ly) : (s.lineDrawn ly).frame[y] = s.frame[y] := by
  simp [State.lineDrawn, Fin.val_ne_of_ne h.symm]

end Sys2Proof.Machine
end

section
/-! The work of a PPU tick (60_exceptions.md R430, R439, R440): it is one of six kinds, by the dot and the line. The mode
entry before a line is drawn changes STAT and IF alone, which the drawing does not read, so the line is the one of the
tick's start. -/

namespace Sys2Proof.Machine

open Sys2Proof.Claims

/-! What the drawing of a line reads (R439, R440). -/

namespace StatEffect

variable {s u : State} (h : StatEffect s u)
include h

theorem dot : u.dot = s.dot := by rw [h.whole]
theorem sprites : u.sprites = s.sprites := by rw [h.whole]
theorem spriteTall : u.spriteTall = s.spriteTall := by rw [h.whole]
theorem windowLine : u.windowLine = s.windowLine := by rw [h.whole]
theorem frames : u.frames = s.frames := by rw [h.whole]
theorem frame : u.frame = s.frame := by rw [h.whole]
theorem frameReady : u.frameReady = s.frameReady := by rw [h.whole]
theorem params : u.params = s.params := by rw [h.whole]
theorem romBanks : u.romBanks = s.romBanks := by rw [h.whole]

theorem peek_low {n : Nat} (hn : n < 0xFF00) : u.peek n = s.peek n := h.cells n (by omega) (by omega)

theorem mapPixel_eq {map px py : Nat} (hmap : map ≤ 0x9C00) (hpx : px < 256) (hpy : py < 256) :
    mapPixel u map px py = mapPixel s map px py := by
  have hbase := tileBase_le (lcdcBit s 4) (s.peek (map + py / 8 * 32 + px / 8))
  unfold mapPixel
  rw [h.peek_low (n := map + py / 8 * 32 + px / 8) (by omega),
    show lcdcBit u 4 = lcdcBit s 4 from congrArg (·.getLsbD 4) (h.cells 0xFF40 (by decide) (by decide))]
  dsimp only
  rw [h.peek_low (by omega), h.peek_low (by omega)]

theorem bgPixel_eq {x ly : Nat} (hx : x < 160) : bgPixel u x ly = bgPixel s x ly := by
  have hwl := s.windowLine.isLt
  unfold bgPixel windowApplies lcdcBit
  rw [h.windowLine, h.cells 0xFF40 (by decide) (by decide), h.cells 0xFF42 (by decide) (by decide),
    h.cells 0xFF43 (by decide) (by decide), h.cells 0xFF4A (by decide) (by decide),
    h.cells 0xFF4B (by decide) (by decide),
    h.mapPixel_eq (by split <;> omega) (by omega) (by omega), h.mapPixel_eq (by split <;> omega) (by omega) (by omega)]

theorem backgroundIndex_eq {x ly : Nat} (hx : x < 160) : backgroundIndex u x ly = backgroundIndex s x ly := by
  rw [← bgPixel_toNat, h.bgPixel_eq hx, bgPixel_toNat]

theorem oam_eq (i : Fin 40) {k : Nat} (hk : k < 4) : oam u i k = oam s i k :=
  congrArg BitVec.toNat (h.peek_low (by omega))

theorem covers_iff {x : Nat} {i : Fin 40} : Covers u x i ↔ Covers s x i := by
  unfold Covers
  rw [h.oam_eq i (by decide)]

theorem spriteAddress_eq (ly : Nat) (i : Fin 40) : spriteAddress u ly i = spriteAddress s ly i := by
  unfold spriteAddress
  rw [h.spriteTall, h.oam_eq i (k := 0) (by decide), h.oam_eq i (k := 2) (by decide), h.oam_eq i (k := 3) (by decide)]

end StatEffect

/-- On a visible line the row of a sprite lies below the mirror, whatever its OAM entry holds (R440). -/
theorem spriteAddress_lt (s : State) {ly : Nat} (hly : ly < 144) (i : Fin 40) :
    (spriteAddress s ly i).toNat < 0xA000 := by
  have hy : oam s i 0 < 256 := (s.peek _).isLt
  have ht : oam s i 2 < 256 := (s.peek _).isLt
  unfold spriteAddress
  rw [BitVec.toNat_ofInt]
  split <;> split <;> omega

namespace StatEffect

variable {s u : State} (h : StatEffect s u)
include h

theorem byteAt_eq {a : Word} (ha : a.toNat < 0xE000) : byteAt a u = byteAt a s :=
  byteAt_congr h.romBanks (h.peek_low (by rw [mirror_of_lt a ha]; omega))

theorem spriteIndex_eq {x ly : Nat} (hly : ly < 144) (i : Fin 40) : spriteIndex u x ly i = spriteIndex s x ly i := by
  have ha := spriteAddress_lt s hly i
  have hnext : (spriteAddress s ly i + 1).toNat < 0xE000 := by bv_omega
  unfold spriteIndex
  rw [h.spriteAddress_eq, h.oam_eq i (k := 1) (by decide), h.oam_eq i (k := 3) (by decide),
    h.byteAt_eq (by omega), h.byteAt_eq hnext]

/-- The background's shade is that of the tick's start (R439). -/
theorem background_toNat {x ly : Nat} (hx : x < 160) :
    (shadeBg u (bgPixel u x ly)).toNat = shadeOf (s.peek 0xFF47) (backgroundIndex s x ly) := by
  rw [shadeBg_toNat, h.backgroundIndex_eq hx, h.cells _ (by decide) (by decide)]

/-- A sprite's shade is that of the tick's start (R440). -/
theorem overlay_toNat {x ly : Nat} (hx : x < 160) (hly : ly < 144) (i : Fin 40) :
    (overlayShade u x ly (bgPixel u x ly) i).toNat =
      if (oam s i 3).testBit 7 = false ∨ backgroundIndex s x ly = 0 then
        shadeOf (s.peek (if (oam s i 3).testBit 4 then 0xFF49 else 0xFF48)) (spriteIndex s x ly i)
      else shadeOf (s.peek 0xFF47) (backgroundIndex s x ly) := by
  rw [overlayShade_toNat, h.oam_eq i (by decide), h.backgroundIndex_eq hx, h.spriteIndex_eq hly,
    h.cells 0xFF47 (by decide) (by decide), h.cells (if (oam s i 3).testBit 4 then 0xFF49 else 0xFF48)]
  all_goals split <;> decide

theorem spriteRowPresent_iff {ly : Nat} {i : Fin 40} : SpriteRowPresent u ly i ↔ SpriteRowPresent s ly i := by
  unfold SpriteRowPresent Readable
  rw [h.spriteAddress_eq, h.romBanks]

end StatEffect

/-! The six kinds of work (R430). -/

/-- What the PPU does in `s` at line `ly` before its dot counter moves on (R430). -/
inductive PpuWork (ly : Nat) (s : State) : State → Prop where
  | search (hdot : s.dot = 0) (hly : ly < 144) : PpuWork ly s (enterMode 2 (oamSearch ly (coincidence s)))
  | vblank (hdot : s.dot = 0) (hly : ly = 144) : PpuWork ly s (vblank (enterMode 1 (coincidence s)))
  | lineStart (hdot : s.dot = 0) (hly : 144 < ly) : PpuWork ly s (coincidence s)
  | draw (hdot : s.dot = 80) (hly : ly < 144) : PpuWork ly s ((enterMode 3 s).lineDrawn ly)
  | hblank (hdot : s.dot = 252) (hly : ly < 144) : PpuWork ly s (enterMode 0 s)
  | idle (hdot : s.dot ≠ 0) (hly : s.dot = 80 ∨ s.dot = 252 → 144 ≤ ly) : PpuWork ly s s

/-- The work is one of the six where the line it draws reads no absent bank. -/
theorem ppuAtDot_work {ly : Nat} {s : State}
    (h : s.dot = 80 → ly < 144 → ∀ x, ∃ c, pixelShade (enterMode 3 s) x ly = .ok c) :
    ∃ w, ppuAtDot ly s = .next w ∧ PpuWork ly s w := by
  unfold ppuAtDot
  split
  · next hdot =>
    split
    · next hly => exact ⟨_, rfl, .search hdot hly⟩
    · split
      · next hly => exact ⟨_, rfl, .vblank hdot hly⟩
      · exact ⟨_, rfl, .lineStart hdot (by omega)⟩
  · next hdot =>
    split
    · next hdraw =>
      obtain ⟨h80, hly⟩ := hdraw
      exact ⟨_, renderLine_next (h h80 hly), .draw h80 hly⟩
    · split
      · next hblank =>
        obtain ⟨h252, hly⟩ := hblank
        exact ⟨_, rfl, .hblank h252 hly⟩
      · exact ⟨_, rfl, .idle hdot (by omega)⟩

/-- Sprites are off or every listed sprite's row can be read, at the dot at which a visible line is drawn (R440). -/
theorem rows_of_spriteDataPresent {s : State} (h : SpriteDataPresent s) (hdot : s.dot = 80)
    (hly : (s.peek 0xFF44).toNat < 144) :
    (s.peek 0xFF40).getLsbD 1 = false ∨ ∀ i ∈ s.sprites, SpriteRowPresent s (s.peek 0xFF44).toNat i := by
  rcases h with h | h | h | h | h
  · exact absurd hdot h
  · omega
  · exact .inl h
  · exact .inr fun i _ => ⟨readable_of_banks _ h, readable_of_banks _ h⟩
  · exact .inr h

/-- The state the PPU's work starts from (R434). -/
def State.notReady (s : State) : State := { s with frameReady := false }

@[simp] theorem notReady_dot (s : State) : s.notReady.dot = s.dot := rfl
@[simp] theorem notReady_frameReady (s : State) : s.notReady.frameReady = false := rfl
@[simp] theorem notReady_params (s : State) : s.notReady.params = s.params := rfl
@[simp] theorem peek_notReady (s : State) (n : Nat) : s.notReady.peek n = s.peek n := rfl

/-- A PPU tick is one of the six kinds of work, then the step of the dot counter (R430). -/
theorem ppuTick_work {s : State} (h : SpriteDataPresent s) :
    ∃ w, ppuTick s = .next (advanceDot (s.peek 0xFF44) w) ∧ PpuWork (s.peek 0xFF44).toNat s.notReady w := by
  have hpixels : s.notReady.dot = 80 → (s.peek 0xFF44).toNat < 144 →
      ∀ x, ∃ c, pixelShade (enterMode 3 s.notReady) x (s.peek 0xFF44).toNat = .ok c := by
    intro hdot hly x
    have hmode := enterMode_statEffect 3 s.notReady
    have hlcdc : (enterMode 3 s.notReady).peek 0xFF40 = s.peek 0xFF40 := hmode.cells _ (by decide) (by decide)
    rcases rows_of_spriteDataPresent h hdot hly with hoff | hrows
    · exact ⟨_, pixelShade_without_sprites (by rw [hlcdc, hoff]) x _⟩
    · cases hon : (s.peek 0xFF40).getLsbD 1 with
      | false => exact ⟨_, pixelShade_without_sprites (by rw [hlcdc, hon]) x _⟩
      | true =>
        refine ⟨_, pixelShade_with_sprites (by rw [hlcdc, hon]) (fun i hi => ?_) x⟩
        rw [hmode.sprites] at hi
        exact hmode.spriteRowPresent_iff.2 (hrows i hi)
  obtain ⟨w, hw, hwork⟩ := ppuAtDot_work hpixels
  exact ⟨w, andThen_eq_next.2 ⟨w, hw, rfl⟩, hwork⟩

end Sys2Proof.Machine
end

section
/-! The six kinds of work read field by field (60_exceptions.md R430 to R440), and the statements about the PPU's
tick. -/

namespace Sys2Proof.Machine

open Sys2Proof.Claims

section
variable (m : Nat) (s : State)

@[simp] theorem enterMode_dot : (enterMode m s).dot = s.dot := (enterMode_statEffect m s).dot
@[simp] theorem enterMode_sprites : (enterMode m s).sprites = s.sprites := (enterMode_statEffect m s).sprites
@[simp] theorem enterMode_spriteTall : (enterMode m s).spriteTall = s.spriteTall :=
  (enterMode_statEffect m s).spriteTall
@[simp] theorem enterMode_windowLine : (enterMode m s).windowLine = s.windowLine :=
  (enterMode_statEffect m s).windowLine
@[simp] theorem enterMode_frames : (enterMode m s).frames = s.frames := (enterMode_statEffect m s).frames
@[simp] theorem enterMode_frame : (enterMode m s).frame = s.frame := (enterMode_statEffect m s).frame
@[simp] theorem enterMode_frameReady : (enterMode m s).frameReady = s.frameReady :=
  (enterMode_statEffect m s).frameReady
@[simp] theorem peek_enterMode {n : Nat} (hif : n ≠ 0xFF0F) (hstat : n ≠ 0xFF41) :
    (enterMode m s).peek n = s.peek n := (enterMode_statEffect m s).cells n hif hstat

@[simp] theorem coincidence_dot : (coincidence s).dot = s.dot := (coincidence_statEffect s).dot
@[simp] theorem coincidence_sprites : (coincidence s).sprites = s.sprites := (coincidence_statEffect s).sprites
@[simp] theorem coincidence_spriteTall : (coincidence s).spriteTall = s.spriteTall :=
  (coincidence_statEffect s).spriteTall
@[simp] theorem coincidence_windowLine : (coincidence s).windowLine = s.windowLine :=
  (coincidence_statEffect s).windowLine
@[simp] theorem coincidence_frames : (coincidence s).frames = s.frames := (coincidence_statEffect s).frames
@[simp] theorem coincidence_frame : (coincidence s).frame = s.frame := (coincidence_statEffect s).frame
@[simp] theorem coincidence_frameReady : (coincidence s).frameReady = s.frameReady :=
  (coincidence_statEffect s).frameReady
@[simp] theorem peek_coincidence {n : Nat} (hif : n ≠ 0xFF0F) (hstat : n ≠ 0xFF41) :
    (coincidence s).peek n = s.peek n := (coincidence_statEffect s).cells n hif hstat

end

@[simp] theorem peek_oamSearch (ly : Nat) (s : State) (n : Nat) : (oamSearch ly s).peek n = s.peek n := rfl
@[simp] theorem peek_lineDrawn (s : State) (ly n : Nat) : (s.lineDrawn ly).peek n = s.peek n := rfl
@[simp] theorem peek_vblank {n : Nat} (s : State) (hif : n ≠ 0xFF0F) : (vblank s).peek n = s.peek n :=
  peek_requestInterrupt_ne 0x01 s hif

/-! The search's lists (R437). -/

/-- The first 10 entries of OAM that `p` holds of. -/
def firstTen (p : Fin 40 → Bool) : List (Fin 40) := ((List.finRange 40).filter p).take 10

theorem firstTen_pairwise (p : Fin 40 → Bool) : (firstTen p).Pairwise (fun i j => i.val < j.val) :=
  (List.pairwise_lt_finRange 40).sublist ((List.take_sublist _ _).trans List.filter_sublist)

theorem firstTen_length_le (p : Fin 40 → Bool) : (firstTen p).length ≤ 10 := List.length_take_le _ _

theorem not_mem_firstTen {p : Fin 40 → Bool} {i : Fin 40} (h : ¬p i = true) : i ∉ firstTen p := fun hi =>
  h (List.mem_filter.1 (List.mem_of_mem_take hi)).2

/-- An entry that `p` holds of is listed unless 10 lower ones are. -/
theorem mem_firstTen_or {p : Fin 40 → Bool} {i : Fin 40} (h : p i = true) :
    i ∈ firstTen p ∨ ((firstTen p).length = 10 ∧ ∀ j ∈ firstTen p, j.val < i.val) := by
  have hsorted : ((List.finRange 40).filter p).Pairwise (· < ·) :=
    (List.pairwise_lt_finRange 40).sublist List.filter_sublist
  have hmem : i ∈ (List.finRange 40).filter p := List.mem_filter.2 ⟨List.mem_finRange i, h⟩
  unfold firstTen
  generalize (List.finRange 40).filter p = l at hsorted hmem
  rw [← List.take_append_drop 10 l] at hsorted hmem
  rcases List.mem_append.1 hmem with htake | hdrop
  · exact .inl htake
  · have hpos := List.length_pos_of_mem hdrop
    rw [List.length_drop] at hpos
    refine .inr ⟨List.length_take_of_le (by omega), fun j hj => ?_⟩
    exact (List.pairwise_append.1 hsorted).2.2 j hj i hdrop

/-- The entries that cover line `ly` under the height that LCDC bit 2 gives (R437). -/
def coversAt (s : State) (ly : Nat) : Fin 40 → Bool := coversLine s ly (objHeight (lcdcBit s 2))

theorem coversAt_iff {s : State} {ly : Nat} {i : Fin 40} : coversAt s ly i = true ↔
    oam s i 0 ≤ ly + 16 ∧ ly + 16 < oam s i 0 + if (s.peek 0xFF40).getLsbD 2 then 16 else 8 := by
  rw [coversAt, coversLine, Bool.and_eq_true, decide_eq_true_iff, decide_eq_true_iff]
  rfl

theorem StatEffect.coversAt_eq {s u : State} (h : StatEffect s u) (ly : Nat) : coversAt u ly = coversAt s ly := by
  funext i
  rw [Bool.eq_iff_iff, coversAt_iff, coversAt_iff, h.oam_eq i (by decide), h.cells 0xFF40 (by decide) (by decide)]

theorem oamSearch_sprites (ly : Nat) (s : State) : (oamSearch ly s).sprites = firstTen (coversAt s ly) := rfl

/-! The work, field by field. -/

/-- A request of the STAT interrupt in the tick that stands at line `ly` (R435, R436). -/
abbrev StatRequested (ly : Nat) (s : State) : Prop :=
  (s.dot = 0 ∧ ly < 144 ∧ (s.peek 0xFF41).getLsbD 5 = true) ∨
  (s.dot = 0 ∧ ly = 144 ∧ (s.peek 0xFF41).getLsbD 4 = true) ∨
  (s.dot = 252 ∧ ly < 144 ∧ (s.peek 0xFF41).getLsbD 3 = true) ∨
  (s.dot = 0 ∧ s.peek 0xFF44 = s.peek 0xFF45 ∧
    (s.params.lycIrqRequiresEnable = false ∨ (s.peek 0xFF41).getLsbD 6 = true))

theorem windowDrawn_enterMode (m : Nat) (s : State) (ly : Nat) : windowDrawn (enterMode m s) ly = windowDrawn s ly := by
  simp [windowDrawn, lcdcBit]

/-- Bits that agree make equal fields. -/
theorem extractLsb'_congr {v w : Byte} {start len : Nat}
    (h : ∀ k, start ≤ k → k < start + len → v.getLsbD k = w.getLsbD k) :
    v.extractLsb' start len = w.extractLsb' start len := by
  apply BitVec.eq_of_getLsbD_eq
  intro k hk
  rw [BitVec.getLsbD_extractLsb', BitVec.getLsbD_extractLsb', h _ (by omega) (by omega)]

namespace PpuWork

variable {ly : Nat} {s w : State} (h : PpuWork ly s w)
include h

theorem ppuEffect : PpuEffect s w := by
  have hmode (m : Nat) (u : State) := (enterMode_statEffect m u).ppuEffect
  have hcoincidence := (coincidence_statEffect s).ppuEffect
  cases h with
  | search => exact (hcoincidence.trans (oamSearch_ppuEffect ly _)).trans (hmode 2 _)
  | vblank => exact (hcoincidence.trans (hmode 1 _)).trans (vblank_ppuEffect _)
  | lineStart => exact hcoincidence
  | draw => exact (hmode 3 s).trans (lineDrawn_ppuEffect _ ly)
  | hblank => exact hmode 0 s
  | idle => exact .refl s

theorem dot : w.dot = s.dot := by
  cases h with
  | search => simp [oamSearch]
  | vblank => simp [Machine.vblank]
  | draw => simp [State.lineDrawn]
  | lineStart | hblank | idle => simp

theorem line : w.peek 0xFF44 = s.peek 0xFF44 := by
  cases h <;> simp

theorem frameReady : w.frameReady = (s.frameReady || decide (s.dot = 0 ∧ ly = 144)) := by
  cases h with
  | search hdot hly => simp [oamSearch, hly.ne]
  | vblank hdot hly => simp [Machine.vblank, hdot, hly]
  | lineStart hdot hly => simp [hly.ne']
  | draw hdot => simp [State.lineDrawn, hdot]
  | hblank hdot | idle hdot => simp [hdot]

theorem frames : w.frames = if s.dot = 0 ∧ ly = 144 then s.frames + 1 else s.frames := by
  cases h with
  | search hdot hly => simp [oamSearch, hly.ne]
  | vblank hdot hly => simp [Machine.vblank, hdot, hly]
  | lineStart hdot hly => simp [hly.ne']
  | draw hdot => simp [State.lineDrawn, hdot]
  | hblank hdot | idle hdot => simp [hdot]

theorem windowLine : w.windowLine =
    if s.dot = 80 ∧ ly < 144 ∧ windowDrawn s ly = true then s.windowLine + 1 else s.windowLine := by
  cases h with
  | search hdot => simp [oamSearch, hdot]
  | vblank hdot => simp [Machine.vblank, hdot]
  | lineStart hdot | hblank hdot => simp [hdot]
  | draw hdot hly => simp [State.lineDrawn, hdot, hly, windowDrawn_enterMode]
  | idle hdot hly =>
    refine (if_neg fun hdraw => ?_).symm
    have := hly (.inl hdraw.1)
    omega

/-- STAT[1:0] at the four entries and in every other tick (R432). -/
theorem stat_mode : (w.peek 0xFF41).extractLsb' 0 2 =
    if s.dot = 0 ∧ ly < 144 then 2
    else if s.dot = 80 ∧ ly < 144 then 3
    else if s.dot = 252 ∧ ly < 144 then 0
    else if s.dot = 0 ∧ ly = 144 then 1
    else (s.peek 0xFF41).extractLsb' 0 2 := by
  cases h with
  | search hdot hly | vblank hdot hly | draw hdot hly | hblank hdot hly => simp [enterMode_stat_mode, hdot, hly]
  | lineStart hdot hly =>
    have hkept : (coincidenceStat s).extractLsb' 0 2 = (s.peek 0xFF41).extractLsb' 0 2 :=
      extractLsb'_congr fun k _ hk => (coincidenceStat_bit s (by omega)).trans (if_neg (by omega))
    simp [coincidence_stat, hkept, hdot, hly.not_gt, hly.ne']
  | idle hdot hly =>
    rw [if_neg (by omega), if_neg (by omega), if_neg (by omega), if_neg (by omega)]

/-- STAT[2] at the start of a line, and the rest of STAT[7:2], which nothing writes (R432, R433). -/
theorem stat_high {k : Nat} (hk : 2 ≤ k) (hk8 : k < 8) : (w.peek 0xFF41).getLsbD k =
    if k = 2 ∧ s.dot = 0 then decide (s.peek 0xFF44 = s.peek 0xFF45) else (s.peek 0xFF41).getLsbD k := by
  cases h with
  | search hdot =>
    rw [enterMode_stat_high (by decide) hk, peek_oamSearch, coincidence_stat, coincidenceStat_bit s hk8]
    simp [hdot]
  | vblank hdot =>
    rw [peek_vblank _ (by decide), enterMode_stat_high (by decide) hk, coincidence_stat, coincidenceStat_bit s hk8]
    simp [hdot]
  | lineStart hdot =>
    rw [coincidence_stat, coincidenceStat_bit s hk8]
    simp [hdot]
  | draw hdot => rw [peek_lineDrawn, enterMode_stat_high (by decide) hk, if_neg (by omega)]
  | hblank hdot => rw [enterMode_stat_high (by decide) hk, if_neg (by omega)]
  | idle hdot => rw [if_neg (by omega)]

/-- IF gains bit 0 at line 144 and bit 1 for a STAT request, and nothing else (R434 to R436). -/
theorem if_bit (k : Nat) : (w.peek 0xFF0F).getLsbD k = ((s.peek 0xFF0F).getLsbD k ||
    decide (k = 0 ∧ s.dot = 0 ∧ ly = 144) || decide (k = 1 ∧ StatRequested ly s)) := by
  have hstat {j : Nat} (hj : 2 < j) (hj8 : j < 8) :
      ((coincidence s).peek 0xFF41).getLsbD j = (s.peek 0xFF41).getLsbD j := by
    rw [coincidence_stat, coincidenceStat_bit s hj8, if_neg (by omega)]
  cases h with
  | search hdot hly =>
    rw [enterMode_if (by decide), peek_oamSearch, peek_oamSearch, coincidence_if, hstat (by decide) (by decide)]
    simp [hdot, hly, hly.ne, Bool.and_or_distrib_left, Bool.or_comm, Bool.or_left_comm]
  | vblank hdot hly =>
    rw [vblank_if, enterMode_if (by decide), coincidence_if, hstat (by decide) (by decide)]
    simp [hdot, hly, Bool.and_or_distrib_left, Bool.or_assoc, Bool.or_comm, Bool.or_left_comm]
  | lineStart hdot hly =>
    rw [coincidence_if]
    simp [hdot, hly.not_gt, hly.ne']
  | draw hdot hly =>
    rw [peek_lineDrawn, enterMode_if (by decide)]
    simp [hdot]
  | hblank hdot hly =>
    rw [enterMode_if (by decide)]
    simp [hdot, hly]
  | idle hdot hly =>
    have hnone : ¬StatRequested ly s := by
      unfold StatRequested
      omega
    simp [hdot, hnone]

/-- The list and the height that a search leaves (R437). -/
theorem searched (hdot : s.dot = 0) (hly : ly < 144) :
    w.sprites = firstTen (coversAt s ly) ∧ w.spriteTall = (s.peek 0xFF40).getLsbD 2 := by
  cases h with
  | search =>
    refine ⟨?_, ?_⟩
    · rw [enterMode_sprites, oamSearch_sprites, (coincidence_statEffect s).coversAt_eq]
    · rw [enterMode_spriteTall, ← peek_coincidence s (n := 0xFF40) (by decide) (by decide)]
      rfl
  | vblank | lineStart => omega
  | draw h80 | hblank h252 => omega
  | idle hne => exact absurd hdot hne

/-- No other work touches them. -/
theorem not_searched (hno : s.dot ≠ 0 ∨ 144 ≤ ly) : w.sprites = s.sprites ∧ w.spriteTall = s.spriteTall := by
  cases h with
  | search hdot hly => omega
  | vblank => simp [Machine.vblank]
  | draw => simp [State.lineDrawn]
  | lineStart | hblank | idle => simp

theorem drawn (hdot : s.dot = 80) (hly : ly < 144) : w = (enterMode 3 s).lineDrawn ly := by
  cases h with
  | draw => rfl
  | search h0 | vblank h0 | lineStart h0 | hblank h0 => omega
  | idle _ hidle =>
    have := hidle (.inl hdot)
    omega

theorem not_drawn (hno : s.dot ≠ 80 ∨ 144 ≤ ly) : w.frame = s.frame := by
  cases h with
  | search => simp [oamSearch]
  | vblank => simp [Machine.vblank]
  | draw hdot hly => omega
  | lineStart | hblank | idle => simp

end PpuWork

/-! The end of the tick, field by field (R431, R438). -/

section
variable (ly : Byte) (s : State)

theorem advanceDot_dot : (advanceDot ly s).dot = if s.dot = 455 then 0 else s.dot + 1 := by
  split
  · next h => rw [advanceDot_end ly h]
  · next h => rw [advanceDot_inside ly h]

theorem advanceDot_line : (advanceDot ly s).peek 0xFF44 = if s.dot = 455 then nextLine ly else s.peek 0xFF44 := by
  split
  · next h =>
    rw [advanceDot_end ly h]
    exact peek_poke_self s 0xFF44 _
  · next h =>
    rw [advanceDot_inside ly h]
    rfl

theorem advanceDot_windowLine :
    (advanceDot ly s).windowLine = if s.dot = 455 ∧ nextLine ly = 0 then 0 else s.windowLine := by
  by_cases h : s.dot = 455
  · rw [advanceDot_end ly h]
    simp [h]
  · rw [advanceDot_inside ly h]
    simp [h]

/-- The step of the dot counter changes the counters and LY alone. -/
theorem advanceDot_whole : advanceDot ly s = { s with
    mem := (advanceDot ly s).mem, dot := (advanceDot ly s).dot, windowLine := (advanceDot ly s).windowLine } := by
  by_cases h : s.dot = 455
  · rw [advanceDot_end ly h]
    rfl
  · rw [advanceDot_inside ly h]

@[simp] theorem advanceDot_sprites : (advanceDot ly s).sprites = s.sprites := by rw [advanceDot_whole]
@[simp] theorem advanceDot_spriteTall : (advanceDot ly s).spriteTall = s.spriteTall := by rw [advanceDot_whole]
@[simp] theorem advanceDot_frames : (advanceDot ly s).frames = s.frames := by rw [advanceDot_whole]
@[simp] theorem advanceDot_frame : (advanceDot ly s).frame = s.frame := by rw [advanceDot_whole]
@[simp] theorem advanceDot_frameReady : (advanceDot ly s).frameReady = s.frameReady := by rw [advanceDot_whole]

@[simp] theorem peek_advanceDot {n : Nat} (h : n ≠ 0xFF44) : (advanceDot ly s).peek n = s.peek n := by
  by_cases hdot : s.dot = 455
  · rw [advanceDot_end ly hdot]
    exact peek_poke_ne s _ h
  · rw [advanceDot_inside ly hdot]
    rfl

end

/-! The statements. -/

theorem notReady_ppuEffect (s : State) : PpuEffect s s.notReady := ⟨rfl, fun _ _ _ _ => rfl⟩

theorem eq_144_iff {v : Byte} : v = 144 ↔ v.toNat = 144 := by
  rw [BitVec.toNat_eq]
  rfl

theorem windowDrawn_iff {s : State} {ly : Nat} : windowDrawn s ly = true ↔ (s.peek 0xFF40).getLsbD 5 = true ∧
    (s.peek 0xFF4A).toNat ≤ ly ∧ (s.peek 0xFF4B).toNat ≤ 166 := by
  rw [windowDrawn, Bool.and_eq_true, Bool.and_eq_true, decide_eq_true_iff, decide_eq_true_iff, and_assoc]
  rfl

/-- Settles O41: the work counts frames and window lines, and the step of the dot counter does the rest. -/
theorem ppuCountersAndFrame : Obligations.PpuCountersAndFrame := by
  intro s hdot hpresent
  obtain ⟨w, ht, hw⟩ := ppuTick_work hpresent
  have heffect := ((notReady_ppuEffect s).trans hw.ppuEffect).trans (advanceDot_ppuEffect (s.peek 0xFF44) w)
  have hline := advanceDot_line (s.peek 0xFF44) w
  rw [hw.line, hw.dot, notReady_dot, peek_notReady] at hline
  have hframe : s.dot = 0 ∧ (s.peek 0xFF44).toNat = 144 ↔ s.dot = 0 ∧ s.peek 0xFF44 = 144 :=
    and_congr_right fun _ => eq_144_iff.symm
  refine ⟨_, ht, heffect.whole, heffect.cells, ?_, ?_, ?_, ?_, ?_⟩
  · rw [advanceDot_dot, hw.dot, notReady_dot]
  · rw [hline, ite_not]
    rfl
  · have hreset : s.dot = 455 ∧ (advanceDot (s.peek 0xFF44) w).peek 0xFF44 = 0 ↔
        s.dot = 455 ∧ nextLine (s.peek 0xFF44) = 0 :=
      and_congr_right fun h => by rw [hline, if_pos h]
    rw [advanceDot_windowLine, hw.windowLine, hw.dot]
    simp only [hreset, windowDrawn_iff]
    rfl
  · rw [advanceDot_frameReady, hw.frameReady, notReady_frameReady, Bool.false_or]
    exact decide_eq_decide.2 hframe
  · rw [advanceDot_frames, hw.frames]
    exact if_congr hframe rfl rfl

/-- Settles O42: the mode is written at its entries and bit 2 at a line's start; the step of the dot counter writes no
bit of STAT. -/
theorem ppuStatBits : Obligations.PpuStatBits := by
  intro s hpresent
  obtain ⟨w, ht, hw⟩ := ppuTick_work hpresent
  refine ⟨_, ht, ?_, ?_, ?_⟩ <;> rw [peek_advanceDot _ _ (by decide)]
  · exact hw.stat_mode
  · rw [hw.stat_high le_rfl (by decide)]
    exact if_congr (and_iff_right rfl) rfl rfl
  · refine extractLsb'_congr fun k hk hk8 => ?_
    rw [hw.stat_high (by omega) hk8, if_neg (by omega), peek_notReady]

/-- Settles O43: the three requests are bits 0 and 1 of IF, and the step of the dot counter makes none. -/
theorem ppuInterruptRequests : Obligations.PpuInterruptRequests := by
  intro s hpresent
  obtain ⟨w, ht, hw⟩ := ppuTick_work hpresent
  refine ⟨_, ht, ?_, ?_, fun k hk => ?_⟩ <;> rw [peek_advanceDot _ _ (by decide), hw.if_bit]
  · simp
  · simp
  · have h0 : k ≠ 0 := by omega
    have h1 : k ≠ 1 := by omega
    simp [h0, h1]

/-- Settles O44: the search lists the first ten entries that cover the line, and no other work touches the list. -/
theorem spriteSearch : Obligations.SpriteSearch := by
  intro s hpresent
  obtain ⟨w, ht, hw⟩ := ppuTick_work hpresent
  refine ⟨_, ht, fun hdot hly => ?_, fun hno => ?_⟩ <;> rw [advanceDot_sprites, advanceDot_spriteTall]
  · obtain ⟨hsprites, htall⟩ := hw.searched hdot hly
    rw [hsprites]
    refine ⟨htall, firstTen_pairwise _, firstTen_length_le _, fun i => ?_⟩
    by_cases hcovers : coversAt s (s.peek 0xFF44).toNat i = true
    · rw [if_pos (coversAt_iff.1 hcovers)]
      exact mem_firstTen_or hcovers
    · rw [if_neg (mt coversAt_iff.2 hcovers)]
      exact not_mem_firstTen hcovers
  · exact hw.not_searched hno

/-- A tick that stands at dot 80 of a visible line draws that line, after the entry to mode 3 (R439). -/
theorem ppuTick_frame_drawn {s : State} (h : SpriteDataPresent s) (hdot : s.dot = 80)
    (hly : (s.peek 0xFF44).toNat < 144) : ∃ t, ppuTick s = .next t ∧
      t.frame = ((enterMode 3 s.notReady).lineDrawn (s.peek 0xFF44).toNat).frame := by
  obtain ⟨w, ht, hw⟩ := ppuTick_work h
  exact ⟨_, ht, by rw [advanceDot_frame, hw.drawn hdot hly]⟩

/-- Settles O45: without sprites a pixel is the background's, and no other tick touches the frame buffer. -/
theorem backgroundLine : Obligations.BackgroundLine := by
  refine fun s => ⟨fun ly hdot hly hoff => ?_, fun hno => ?_⟩
  · have hmode := enterMode_statEffect 3 s.notReady
    obtain ⟨t, ht, hframe⟩ := ppuTick_frame_drawn (.inr (.inr (.inl hoff))) hdot (by omega)
    rw [hly] at hframe
    have hlcdc : (enterMode 3 s.notReady).peek 0xFF40 = s.peek 0xFF40 := hmode.cells _ (by decide) (by decide)
    refine ⟨t, ht, fun x => ?_, fun y hy => ?_⟩
    · rw [hframe, lineDrawn_frame_self _ ly (pixelShade_without_sprites (by rw [hlcdc, hoff]) x ly)]
      exact hmode.background_toNat x.isLt
    · rw [hframe, lineDrawn_frame_ne _ hy, hmode.frame]
      rfl
  · have hpresent : SpriteDataPresent s := hno.imp_right .inl
    obtain ⟨w, ht, hw⟩ := ppuTick_work hpresent
    exact ⟨_, ht, (advanceDot_frame _ w).trans (hw.not_drawn hno)⟩

/-- Settles O46: with sprites a pixel is that of the first candidate that shows there, or else the background's. -/
theorem spriteOverlay : Obligations.SpriteOverlay := by
  intro s ly hpresent hdot hly hon
  have hvisible : (s.peek 0xFF44).toNat < 144 := by omega
  obtain ⟨t, ht, hframe⟩ := ppuTick_frame_drawn hpresent hdot hvisible
  have hrows := (rows_of_spriteDataPresent hpresent hdot hvisible).resolve_left (by simp [hon])
  rw [hly] at hframe hrows
  have hmode := enterMode_statEffect 3 s.notReady
  generalize enterMode 3 s.notReady = u at hframe hmode
  have hsprites : u.sprites = s.sprites := hmode.sprites
  have hlcdc : u.peek 0xFF40 = s.peek 0xFF40 := hmode.cells _ (by decide) (by decide)
  have hpixel := pixelShade_with_sprites (s := u) (ly := ly) (by rw [hlcdc, hon]) fun i hi =>
    hmode.spriteRowPresent_iff.2 (hrows i (hsprites ▸ hi))
  refine ⟨t, ht, fun y hy => ?_, fun x => ⟨fun hnone => ?_, fun p i hp hcovers hshows hfirst => ?_⟩⟩
  · rw [hframe, lineDrawn_frame_ne _ hy, hmode.frame]
    rfl
  · have hfind : (candidates u x).find? (showsAt u x ly) = none := by
      refine find_candidates_eq_none fun i hi hcovers => ?_
      rw [hmode.spriteIndex_eq ly.isLt]
      exact hnone i (hsprites ▸ hi) (hmode.covers_iff.1 hcovers)
    rw [hframe, lineDrawn_frame_self _ ly (hpixel x), hfind]
    exact hmode.background_toNat x.isLt
  · have hfind : (candidates u x).find? (showsAt u x ly) = some i := by
      refine find_candidates (by rw [hsprites, hp]) (hmode.covers_iff.2 hcovers) ?_ fun q j hq hqj hcov hsh => ?_
      · rwa [hmode.spriteIndex_eq ly.isLt]
      · rw [hmode.spriteIndex_eq ly.isLt] at hsh
        rw [hsprites] at hqj
        rw [hmode.oam_eq i (by decide), hmode.oam_eq j (by decide)]
        exact hfirst q j hq hqj (hmode.covers_iff.1 hcov) hsh
    rw [hframe, lineDrawn_frame_self _ ly (hpixel x), hfind]
    exact hmode.overlay_toNat x.isLt ly.isLt i

end Sys2Proof.Machine
end

section
/-! The state at reset (70_reset_and_hazards.md R501 to R504). -/

namespace Sys2Proof.Machine

/-- At reset no cell is listed, so each holds 0x00 (R503). -/
theorem peek_reset (n : Nat) : State.reset.peek n = 0x00 := rfl

/-- A read of the high region needs no ROM bank, and the cell it leads to, mirrored or not, holds 0x00 (R87, R503). -/
theorem memRead_reset_high {a : Word} (h : 0x8000 ≤ a.toNat) : memRead a State.reset = .ok 0x00 := by
  rw [memRead_ok (.inl h), peek_reset]

/-- Settles O49: the fields are those `State.reset` lists, and the high region reads 0x00 by `memRead_reset_high`. -/
theorem resetState : Obligations.ResetState :=
  ⟨rfl, rfl, rfl, rfl, rfl, rfl, rfl, rfl, rfl, fun _ => memRead_reset_high, rfl, rfl, rfl, rfl, rfl, rfl⟩

end Sys2Proof.Machine
end
